-- ==== Sys2Proof/Word.lean ====
section
/-! DEFINITION. The word types of CORE (00_scope.md R9, R11): bytes, 16-bit words, and a list of bytes by index. -/

namespace Sys2Proof

/-- `u8` of 00_scope.md R12. -/
abbrev Byte := BitVec 8

/-- `u16` of 00_scope.md R12: addresses, `PC`, `SP`, register pairs. -/
abbrev Word := BitVec 16

/-- One byte array: the bytes written so far, by index, indexes strictly rising (`memWf` of WellFormed.lean). -/
abbrev Mem := List Host.Cell

end Sys2Proof
end

