-- ==== Sys2Proof/Machine/Bits.lean ====
section
/-! DEFINITION. Bit fields, sign extension and byte order (00_scope.md R11, R12). -/

namespace Sys2Proof

/-- `v[15:8]`. -/
def hiByte (w : Word) : Byte := w.extractLsb' 8 8

/-- `v[7:0]`. -/
def loByte (w : Word) : Byte := w.setWidth 8

/-- `hi ++ lo`. -/
def joinBytes (hi lo : Byte) : Word := hi ++ lo

/-- `sext_16`. -/
def sext16 (v : Byte) : Word := v.signExtend 16

/-- `zext_16`. -/
def zext16 (v : Byte) : Word := v.setWidth 16

/-- The 8-bit value with bit `i` equal to `x` and every other bit 0. -/
def bitAt (x : Bool) (i : Nat) : Byte := if x then 1#8 <<< i else 0#8

/-- `0xFF00 + n`, the address of an `LDH` form (10_state.md R34). -/
def highPage (n : Byte) : Word := joinBytes 0xFF n

end Sys2Proof
end

