-- ==== Sys2Proof/Syntax.lean ====
section
/-! DEFINITION. The instructions: operand classes (30_encoding.md R134 to R139) and one constructor per row of opcode_table.json: first
the rows with an immediate, then the others, each in the table's order (Lean's compiler takes operands only in the first 245
constructors of a type). A constructor's name is its row's mnemonic, with `At` for a parenthesised operand; a lower-case last letter is an
immediate of the spec's name (`n`, `nn`, `e`; R140). -/

namespace Sys2Proof

/-- The seven 8-bit registers of field `r` (R134); code 6 is `(HL)` and no register. -/
inductive Reg8 where
  | b | c | d | e | h | l | a
  deriving DecidableEq, Repr

/-- `rr` (R135). -/
inductive Pair where
  | bc | de | hl | sp
  deriving DecidableEq, Repr

/-- `qq` (R136). -/
inductive StackPair where
  | bc | de | hl | af
  deriving DecidableEq, Repr

/-- The ALU operation (R137). -/
inductive AluOp where
  | add | adc | sub | sbc | and | xor | or | cp
  deriving DecidableEq, Repr

/-- `cc` (R138). -/
inductive Cond where
  | nz | z | nc | c
  deriving DecidableEq, Repr

/-- The shift or rotate kind (R139). -/
inductive ShiftOp where
  | rlc | rrc | rl | rr | sla | sra | swap | srl
  deriving DecidableEq, Repr

/-- The instructions. -/
inductive Instr where
  | ldBCnn (nn : Word)
  | ldBn (n : Byte)
  | ldAtAddrSP (nn : Word)
  | ldCn (n : Byte)
  | ldDEnn (nn : Word)
  | ldDn (n : Byte)
  | jre (e : Byte)
  | ldEn (n : Byte)
  | jrNZe (e : Byte)
  | ldHLnn (nn : Word)
  | ldHn (n : Byte)
  | jrZe (e : Byte)
  | ldLn (n : Byte)
  | jrNCe (e : Byte)
  | ldSPnn (nn : Word)
  | ldAtHLn (n : Byte)
  | jrCe (e : Byte)
  | ldAn (n : Byte)
  | jpNZnn (nn : Word)
  | jpnn (nn : Word)
  | callNZnn (nn : Word)
  | addAn (n : Byte)
  | jpZnn (nn : Word)
  | callZnn (nn : Word)
  | callnn (nn : Word)
  | adcAn (n : Byte)
  | jpNCnn (nn : Word)
  | callNCnn (nn : Word)
  | subn (n : Byte)
  | jpCnn (nn : Word)
  | callCnn (nn : Word)
  | sbcAn (n : Byte)
  | ldhAtImmA (n : Byte)
  | andn (n : Byte)
  | addSPe (e : Byte)
  | ldAtAddrA (nn : Word)
  | xorn (n : Byte)
  | ldhAAtImm (n : Byte)
  | orn (n : Byte)
  | ldHLSPe (e : Byte)
  | ldAAtAddr (nn : Word)
  | cpn (n : Byte)
  | nop
  | ldAtBCA
  | incBC
  | incB
  | decB
  | rlca
  | addHLBC
  | ldAAtBC
  | decBC
  | incC
  | decC
  | rrca
  | stop
  | ldAtDEA
  | incDE
  | incD
  | decD
  | rla
  | addHLDE
  | ldAAtDE
  | decDE
  | incE
  | decE
  | rra
  | ldAtHLIncA
  | incHL
  | incH
  | decH
  | daa
  | addHLHL
  | ldAAtHLInc
  | decHL
  | incL
  | decL
  | cpl
  | ldAtHLDecA
  | incSP
  | incAtHL
  | decAtHL
  | scf
  | addHLSP
  | ldAAtHLDec
  | decSP
  | incA
  | decA
  | ccf
  | ldBB
  | ldBC
  | ldBD
  | ldBE
  | ldBH
  | ldBL
  | ldBAtHL
  | ldBA
  | ldCB
  | ldCC
  | ldCD
  | ldCE
  | ldCH
  | ldCL
  | ldCAtHL
  | ldCA
  | ldDB
  | ldDC
  | ldDD
  | ldDE
  | ldDH
  | ldDL
  | ldDAtHL
  | ldDA
  | ldEB
  | ldEC
  | ldED
  | ldEE
  | ldEH
  | ldEL
  | ldEAtHL
  | ldEA
  | ldHB
  | ldHC
  | ldHD
  | ldHE
  | ldHH
  | ldHL
  | ldHAtHL
  | ldHA
  | ldLB
  | ldLC
  | ldLD
  | ldLE
  | ldLH
  | ldLL
  | ldLAtHL
  | ldLA
  | ldAtHLB
  | ldAtHLC
  | ldAtHLD
  | ldAtHLE
  | ldAtHLH
  | ldAtHLL
  | halt
  | ldAtHLA
  | ldAB
  | ldAC
  | ldAD
  | ldAE
  | ldAH
  | ldAL
  | ldAAtHL
  | ldAA
  | addAB
  | addAC
  | addAD
  | addAE
  | addAH
  | addAL
  | addAAtHL
  | addAA
  | adcAB
  | adcAC
  | adcAD
  | adcAE
  | adcAH
  | adcAL
  | adcAAtHL
  | adcAA
  | subB
  | subC
  | subD
  | subE
  | subH
  | subL
  | subAtHL
  | subA
  | sbcAB
  | sbcAC
  | sbcAD
  | sbcAE
  | sbcAH
  | sbcAL
  | sbcAAtHL
  | sbcAA
  | andB
  | andC
  | andD
  | andE
  | andH
  | andL
  | andAtHL
  | andA
  | xorB
  | xorC
  | xorD
  | xorE
  | xorH
  | xorL
  | xorAtHL
  | xorA
  | orB
  | orC
  | orD
  | orE
  | orH
  | orL
  | orAtHL
  | orA
  | cpB
  | cpC
  | cpD
  | cpE
  | cpH
  | cpL
  | cpAtHL
  | cpA
  | retNZ
  | popBC
  | pushBC
  | rst00H
  | retZ
  | ret
  | rst08H
  | retNC
  | popDE
  | illegalD3
  | pushDE
  | rst10H
  | retC
  | reti
  | illegalDB
  | illegalDD
  | rst18H
  | popHL
  | ldhAtCA
  | illegalE3
  | illegalE4
  | pushHL
  | rst20H
  | jpHL
  | illegalEB
  | illegalEC
  | illegalED
  | rst28H
  | popAF
  | ldhAAtC
  | di
  | illegalF4
  | pushAF
  | rst30H
  | ldSPHL
  | ei
  | illegalFC
  | illegalFD
  | rst38H
  | rlcB
  | rlcC
  | rlcD
  | rlcE
  | rlcH
  | rlcL
  | rlcAtHL
  | rlcA
  | rrcB
  | rrcC
  | rrcD
  | rrcE
  | rrcH
  | rrcL
  | rrcAtHL
  | rrcA
  | rlB
  | rlC
  | rlD
  | rlE
  | rlH
  | rlL
  | rlAtHL
  | rlA
  | rrB
  | rrC
  | rrD
  | rrE
  | rrH
  | rrL
  | rrAtHL
  | rrA
  | slaB
  | slaC
  | slaD
  | slaE
  | slaH
  | slaL
  | slaAtHL
  | slaA
  | sraB
  | sraC
  | sraD
  | sraE
  | sraH
  | sraL
  | sraAtHL
  | sraA
  | swapB
  | swapC
  | swapD
  | swapE
  | swapH
  | swapL
  | swapAtHL
  | swapA
  | srlB
  | srlC
  | srlD
  | srlE
  | srlH
  | srlL
  | srlAtHL
  | srlA
  | bit0B
  | bit0C
  | bit0D
  | bit0E
  | bit0H
  | bit0L
  | bit0AtHL
  | bit0A
  | bit1B
  | bit1C
  | bit1D
  | bit1E
  | bit1H
  | bit1L
  | bit1AtHL
  | bit1A
  | bit2B
  | bit2C
  | bit2D
  | bit2E
  | bit2H
  | bit2L
  | bit2AtHL
  | bit2A
  | bit3B
  | bit3C
  | bit3D
  | bit3E
  | bit3H
  | bit3L
  | bit3AtHL
  | bit3A
  | bit4B
  | bit4C
  | bit4D
  | bit4E
  | bit4H
  | bit4L
  | bit4AtHL
  | bit4A
  | bit5B
  | bit5C
  | bit5D
  | bit5E
  | bit5H
  | bit5L
  | bit5AtHL
  | bit5A
  | bit6B
  | bit6C
  | bit6D
  | bit6E
  | bit6H
  | bit6L
  | bit6AtHL
  | bit6A
  | bit7B
  | bit7C
  | bit7D
  | bit7E
  | bit7H
  | bit7L
  | bit7AtHL
  | bit7A
  | res0B
  | res0C
  | res0D
  | res0E
  | res0H
  | res0L
  | res0AtHL
  | res0A
  | res1B
  | res1C
  | res1D
  | res1E
  | res1H
  | res1L
  | res1AtHL
  | res1A
  | res2B
  | res2C
  | res2D
  | res2E
  | res2H
  | res2L
  | res2AtHL
  | res2A
  | res3B
  | res3C
  | res3D
  | res3E
  | res3H
  | res3L
  | res3AtHL
  | res3A
  | res4B
  | res4C
  | res4D
  | res4E
  | res4H
  | res4L
  | res4AtHL
  | res4A
  | res5B
  | res5C
  | res5D
  | res5E
  | res5H
  | res5L
  | res5AtHL
  | res5A
  | res6B
  | res6C
  | res6D
  | res6E
  | res6H
  | res6L
  | res6AtHL
  | res6A
  | res7B
  | res7C
  | res7D
  | res7E
  | res7H
  | res7L
  | res7AtHL
  | res7A
  | set0B
  | set0C
  | set0D
  | set0E
  | set0H
  | set0L
  | set0AtHL
  | set0A
  | set1B
  | set1C
  | set1D
  | set1E
  | set1H
  | set1L
  | set1AtHL
  | set1A
  | set2B
  | set2C
  | set2D
  | set2E
  | set2H
  | set2L
  | set2AtHL
  | set2A
  | set3B
  | set3C
  | set3D
  | set3E
  | set3H
  | set3L
  | set3AtHL
  | set3A
  | set4B
  | set4C
  | set4D
  | set4E
  | set4H
  | set4L
  | set4AtHL
  | set4A
  | set5B
  | set5C
  | set5D
  | set5E
  | set5H
  | set5L
  | set5AtHL
  | set5A
  | set6B
  | set6C
  | set6D
  | set6E
  | set6H
  | set6L
  | set6AtHL
  | set6A
  | set7B
  | set7C
  | set7D
  | set7E
  | set7H
  | set7L
  | set7AtHL
  | set7A
  deriving DecidableEq, Repr

end Sys2Proof
end

