-- ==== Sys2Proof/WellFormed.lean ====
section
/-! DEFINITION. Well-formedness. An instruction has no ill-formed term (30_encoding.md R145: decoding is total, and an immediate
fills its field by its type), so the checks are those of a byte array's canonical form. -/

namespace Sys2Proof

/-- Every term of `Instr` is an instruction of the tables of 30_encoding.md R141 and R142: its only operands are immediates whose
types are exactly the 8 or 16 bits of their fields (R140; log 18). -/
abbrev Instr.WellFormed (_ : Instr) : Prop := True

/-- The canonical form of a byte array: indexes strictly rising (so none twice). -/
def memWf : Mem → Bool
  | [] => true
  | [_] => true
  | x :: y :: m => decide (x.1 < y.1) && memWf (y :: m)

/-- The canonical form of the ROM image: strictly rising, and no entry equal to 0x00, which is what an unlisted byte of
the image reads as (log 4). -/
def romWf (m : Mem) : Bool := memWf m && m.all fun x => x.2 != 0x00

/-- Every index of the array is below its size (10_state.md R33). -/
def memBelow (size : Nat) (m : Mem) : Bool := m.all fun x => decide (x.1 < size)

end Sys2Proof
end

