-- ==== Sys2Proof/Config.lean ====
section
/-! DEFINITION. What the spec leaves to the configuration (00_scope.md R10) and the free values: opaque constants with no body. -/

namespace Sys2Proof

/-- The byte arrays CORE owns (10_state.md R33), MBC3's five `rtc` bytes (R44) and the ROM image (20_memory.md R98). -/
inductive ArrayId where
  | vram | wram0 | wram1 | oam | hram | cram | rtc | rom
  deriving DecidableEq, Repr

/-- One event at the I/O ports (20_memory.md R73, 00_scope.md R8), each at the cycle count at which it happened (log 7). -/
inductive PortEvent where
  /-- A read by the CPU, which asks `io_read` (R73). -/
  | cpuRead (cycles : Nat) (addr : Word)
  /-- A write by the CPU, handed over by `io_write` (R73). -/
  | cpuWrite (cycles : Nat) (addr : Word) (v : Byte)
  /-- A read by Env through the Bus; not to be assumed idempotent (20_memory.md R85). -/
  | envRead (cycles : Nat) (addr : Word)
  /-- A write by Env through the Bus (R8). -/
  | envWrite (cycles : Nat) (addr : Word) (v : Byte)
  /-- A change of I/O-port state that Env makes by itself (R8); the number `k` tells one change from another (log 8). -/
  | envChange (cycles : Nat) (k : Nat)
  deriving DecidableEq, Repr

/-- One Bus access of one byte (20_memory.md R61, R62). -/
inductive BusAccess where
  | read (addr : Word)
  | write (addr : Word) (v : Byte)
  deriving DecidableEq, Repr

/-- `SPADD_FLAGS` (00_scope.md R10, 44_alu16.md R284). -/
inductive SpaddFlags where
  | wide | narrow
  deriving DecidableEq, Repr

/-- `STOP_BEHAVIOUR` (00_scope.md R10, 47_cpu_control.md R353): "refuse (default) or a step function". -/
inductive StopBehaviour where
  /-- The default: no successor. -/
  | refuse
  /-- The one step function the rule names, "4-cycle no-op of length 1". -/
  | noop
  /-- Any step function: the `k`-th of `Config.stopStep` (log 10). -/
  | step (k : Nat)
  deriving DecidableEq, Repr

/-- FREE VALUE (log 5). The byte element `i` of array `k` holds before anything writes it: "any value"
(10_state.md R33, 70_reset_and_hazards.md R452). -/
opaque Config.powerOn : ArrayId → Nat → Byte

/-- FREE VALUE (log 6). `UNUSABLE_READ`, the one byte every read of `0xFEA0..0xFEFF` returns (20_memory.md R72). -/
opaque Config.unusableRead : Byte

/-- FREE VALUE (log 7). The oracle `io_read` (20_memory.md R73): what a read of port `addr` answers, given every port event
before it (newest first) and the cycle count. The list grows at every port access and whenever Env changes a port, so no two accesses
of one run ask for the same value. -/
opaque Config.portRead : List PortEvent → Nat → Word → Byte

/-- `RESET_REGS` (70_reset_and_hazards.md R451): PRESUMED, the suggested post-boot values of the family (log 2). -/
structure ResetRegs where
  a : Byte := 0x01
  f : Byte := 0xB0
  b : Byte := 0x00
  c : Byte := 0x13
  d : Byte := 0x00
  e : Byte := 0xD8
  h : Byte := 0x01
  l : Byte := 0x4D
  sp : Word := 0xFFFE
  deriving DecidableEq, Repr

/-- The instance State.reset uses (log 2). -/
def Config.resetRegs : ResetRegs := {}

end Sys2Proof
end

