-- ==== Sys2Proof/Machine/State.lean ====
section
/-! DEFINITION. The state of CORE (10_state.md R20), the reasons a load or a step can stop, and the state after reset. -/

namespace Sys2Proof
namespace Machine

/-- `run` (10_state.md R29). -/
inductive RunState where
  | running | halted
  deriving DecidableEq, Repr, Inhabited

/-- `MbcState` (10_state.md R40 to R44). The constructor is `MBC_KIND`; MBC3's `rtc` bytes are the array `rtc` of State.
Built by a load (20_memory.md R101); a control write changes the fields and never the constructor. -/
inductive Mbc where
  /-- R41: no register. -/
  | none
  /-- R42. `mode = true` is mode 1. -/
  | mbc1 (ramEn : Bool) (bankLo : BitVec 5) (bankHi : BitVec 2) (mode : Bool)
  /-- R43. -/
  | mbc2 (ramEn : Bool) (romBank : BitVec 4)
  /-- R44. -/
  | mbc3 (ramEn : Bool) (romBank : BitVec 7) (ramSel : BitVec 4)
  deriving DecidableEq, Repr

/-- The whole machine. -/
structure State where
  /-- The eight 8-bit registers (10_state.md R22); `f` holds Z N H C in bits 7..4 (R23, R24). -/
  a : Byte
  f : Byte
  b : Byte
  c : Byte
  d : Byte
  e : Byte
  h : Byte
  l : Byte
  sp : Word
  pc : Word
  /-- `IME` (R27). -/
  ime : Bool
  /-- `ime_pending`, the one-shot (R28). -/
  imePending : Bool
  /-- `run` (R29). -/
  run : RunState
  /-- `IF` (R30): bit 0 VBlank, 1 LcdStat, 2 Timer, 3 Serial, 4 Joypad. -/
  ifReg : BitVec 5
  /-- `IE` (R31). -/
  ieReg : Byte
  /-- `cycles` (R32). -/
  cycles : Nat
  /-- The byte arrays (R33): the bytes written so far; an unlisted byte of a RAM array holds `Config.powerOn` (log 5). -/
  vram : Mem
  wram0 : Mem
  wram1 : Mem
  oam : Mem
  hram : Mem
  cram : Mem
  /-- `rtc[0..4]` of MBC3 (R44). -/
  rtc : Mem
  /-- The cartridge's ROM image (20_memory.md R98); an unlisted byte is 0x00 (log 4). No step changes it. -/
  rom : Mem
  mbc : Mbc
  /-- `ROM_BANKS`, `RAM_BYTES`, `SPADD_FLAGS`, `STOP_BEHAVIOUR` (00_scope.md R10). No step changes them. -/
  romBanks : Nat
  ramBytes : Nat
  spaddFlags : SpaddFlags
  stopBehaviour : StopBehaviour
  /-- The model's own field (log 7): the I/O-port events so far, newest first. -/
  ports : List PortEvent
  deriving DecidableEq, Repr

/-- What a step function given for `STOP` makes of a state (00_scope.md R10, 47_cpu_control.md R353): every register, the interrupt state
and the run state after it, its Bus accesses in order (they reach every byte array, the MBC registers, `IF`, `IE` and the ports), and the cycles it
takes. -/
structure StopEffect where
  a : Byte
  f : Byte
  b : Byte
  c : Byte
  d : Byte
  e : Byte
  h : Byte
  l : Byte
  sp : Word
  pc : Word
  ime : Bool
  imePending : Bool
  run : RunState
  accesses : List BusAccess
  cycles : Nat
  deriving DecidableEq, Repr, Inhabited

end Machine

/-- FREE VALUE (log 10). The step functions that `STOP_BEHAVIOUR` may be, by number: what the `k`-th makes of the state after the fetch
of the opcode 0x10. -/
opaque Config.stopStep : Nat → Machine.State → Machine.StopEffect

namespace Machine

/-- The fatal conditions of 00_scope.md R14(a), all raised by `load` (Load.lean) and by nothing else: construction fails before any
emulation begins. `step` raises no fault (60_exceptions.md R420). Each is safe: there is no machine to make a claim about. -/
inductive Fault where
  /-- `load`: the image does not reach the header, or its length is not `16384 * ROM_BANKS` (20_memory.md R101). Safe. -/
  | imageLength
  /-- `load`: the cartridge-type byte at 0x147 is not in the table of 20_memory.md R100. Safe. -/
  | unrecognizedType (code : Byte)
  /-- `load`: the ROM-size byte at 0x148 maps to an undefined quantity (20_memory.md R102). Safe. -/
  | undefinedRomSize (code : Byte)
  /-- `load`: the RAM-size byte at 0x149 maps to an undefined quantity (20_memory.md R103). Safe. -/
  | undefinedRamSize (code : Byte)
  deriving DecidableEq, Repr

/-- Why a step has no successor. -/
inductive Refusal where
  /-- Raised by an arm of `exec` whose instruction has no meaning yet. Safe. -/
  | notModelled (mnemonic : String)
  /-- Raised by `STOP` when `STOP_BEHAVIOUR` is `refuse` (47_cpu_control.md R353). Safe: nothing is claimed after it. -/
  | stopUnspecified
  deriving DecidableEq, Repr

/-- The outcome of one instruction or one step. -/
abbrev Result := Host.Outcome State Fault Refusal

/-- The state after reset (70_reset_and_hazards.md R450) of a machine built from a cartridge. -/
def State.resetWith (mbc : Mbc) (rom : Mem) (romBanks ramBytes : Nat) : State where
  a := Config.resetRegs.a
  f := Config.resetRegs.f &&& 0xF0
  b := Config.resetRegs.b
  c := Config.resetRegs.c
  d := Config.resetRegs.d
  e := Config.resetRegs.e
  h := Config.resetRegs.h
  l := Config.resetRegs.l
  sp := Config.resetRegs.sp
  pc := 0x0100
  ime := false
  imePending := false
  run := .running
  ifReg := 0
  ieReg := 0
  cycles := 0
  vram := []
  wram0 := []
  wram1 := []
  oam := []
  hram := []
  cram := []
  rtc := []
  rom := rom
  mbc := mbc
  romBanks := romBanks
  ramBytes := ramBytes
  spaddFlags := .wide
  stopBehaviour := .refuse
  ports := []

/-- Reset with the blank cartridge: 32 KiB of 0x00, whose header says variant None, two ROM banks, no RAM (log 4). -/
def State.reset : State := State.resetWith .none [] 2 0

end Machine
end Sys2Proof
end

