-- ==== Sys2Proof/Machine/Mbc.lean ====
section
/-! DEFINITION. The memory bank controllers (20_memory.md Part C): control writes and bank translation. -/

namespace Sys2Proof.Machine

/-- Where an address leads once the Bus and the MBC have decoded it. -/
inductive Loc where
  /-- A byte of the ROM image; a write here is an MBC control write (R63, R64). -/
  | rom (off : Nat)
  /-- Element `i` of a RAM array. -/
  | cell (k : ArrayId) (i : Nat)
  /-- A 4-bit cell of MBC2's built-in RAM (R114). -/
  | nibble (i : Nat)
  /-- Cartridge RAM that is absent, disabled or not selected: reads 0xFF, discards writes. -/
  | absent
  /-- `0xFEA0..0xFEFF` (R72). -/
  | unusable
  /-- An I/O port other than 0xFF0F (R73). -/
  | port
  /-- 0xFF0F (R74). -/
  | ifPort
  /-- 0xFFFF (R76). -/
  | iePort
  deriving DecidableEq, Repr

/-- The value that enables cartridge RAM: low nibble 0xA (R107, R113, R116). -/
def enablesRam (v : Byte) : Bool := v.setWidth 4 == 0xA#4

/-- `mbc.write_rom_control(addr, v)`: None R106, MBC1 R107, MBC2 R113, MBC3 R116. -/
def mbcControl (m : Mbc) (addr : Word) (v : Byte) : Mbc :=
  match m with
  | .none => .none
  | .mbc1 en lo hi mode =>
    if addr.toNat < 0x2000 then .mbc1 (enablesRam v) lo hi mode
    else if addr.toNat < 0x4000 then .mbc1 en (v.setWidth 5) hi mode
    else if addr.toNat < 0x6000 then .mbc1 en lo (v.setWidth 2) mode
    else .mbc1 en lo hi (v.getLsbD 0)
  | .mbc2 en bank =>
    if addr.toNat < 0x4000 then
      if addr.getLsbD 8 then .mbc2 en (v.setWidth 4) else .mbc2 (enablesRam v) bank
    else .mbc2 en bank
  | .mbc3 en bank sel =>
    if addr.toNat < 0x2000 then .mbc3 (enablesRam v) bank sel
    else if addr.toNat < 0x4000 then .mbc3 en (v.setWidth 7) sel
    else if addr.toNat < 0x6000 then .mbc3 en bank (v.setWidth 4)
    else .mbc3 en bank sel

/-- "Bank 0 remaps to 1" (R108, R113, R117). -/
def zeroToOne (n : Nat) : Nat := if n = 0 then 1 else n

/-- The bank `0x4000..0x7FFF` shows, before the reduction of R105; None shows the flat image (R106). -/
def mbcRomBank (m : Mbc) : Nat :=
  match m with
  | .none => 1
  | .mbc1 _ lo hi mode => 32 * (if mode then 0 else hi.toNat) + zeroToOne lo.toNat
  | .mbc2 _ bank => zeroToOne bank.toNat
  | .mbc3 _ bank _ => zeroToOne bank.toNat

/-- The offset `mbc.read_rom(addr)` reads in the ROM image, for `addr` in `0x0000..0x7FFF` (R105, R106, R108, R113, R117). -/
def romOffset (m : Mbc) (romBanks : Nat) (addr : Word) : Nat :=
  match m with
  | .none => addr.toNat % (16384 * romBanks)
  | _ =>
    if addr.toNat < 0x4000 then addr.toNat
    else 16384 * (mbcRomBank m % romBanks) + (addr.toNat - 0x4000)

/-- Byte `off` of bank `bank` of cartridge RAM, reduced modulo its size (R105, R110, R118), or nothing where there is no RAM. -/
def cramLoc (ramBytes bank off : Nat) : Loc :=
  if ramBytes = 0 then .absent else .cell .cram ((8192 * bank + off) % ramBytes)

/-- What `mbc.read_ram` and `mbc.write_ram` reach for `addr` in `0xA000..0xBFFF`: None R106, MBC1 R110, MBC2 R114, MBC3 R118. -/
def mbcRamLoc (m : Mbc) (ramBytes : Nat) (addr : Word) : Loc :=
  let off := addr.toNat - 0xA000
  match m with
  | .none => cramLoc ramBytes 0 off
  | .mbc1 en _ hi mode => if en then cramLoc ramBytes (if mode then hi.toNat else 0) off else .absent
  | .mbc2 en _ => if en then .nibble (off % 512) else .absent
  | .mbc3 en _ sel =>
    if en then
      if sel.toNat ≤ 3 then cramLoc ramBytes sel.toNat off
      else if 0x8 ≤ sel.toNat ∧ sel.toNat ≤ 0xC then .cell .rtc (sel.toNat - 0x8)
      else .absent
    else .absent

end Sys2Proof.Machine
end

