-- ==== Sys2Proof/Machine/Memory.lean ====
section
/-! DEFINITION. Byte arrays: reading and writing one element, in canonical form. -/

namespace Sys2Proof

/-- The byte listed at an index, if any. -/
def memFind : Mem → Nat → Option Byte
  | [], _ => none
  | x :: m, i => if x.1 = i then some x.2 else memFind m i

/-- List a byte at an index, in its place. -/
def memPut : Mem → Nat → Byte → Mem
  | [], i, v => [(i, v)]
  | x :: m, i, v =>
    if i < x.1 then (i, v) :: x :: m
    else if i = x.1 then (i, v) :: m
    else x :: memPut m i v

/-- Take the byte at an index off the list. -/
def memErase : Mem → Nat → Mem
  | [], _ => []
  | x :: m, i => if x.1 = i then m else x :: memErase m i

namespace Machine

/-- What an unlisted byte of an array reads as: 0x00 in the ROM image (log 4), a free value in every other (log 5). -/
def unlisted (k : ArrayId) (i : Nat) : Byte :=
  match k with
  | .rom => 0x00
  | _ => Config.powerOn k i

/-- The array named by `k`. -/
def State.array (s : State) (k : ArrayId) : Mem :=
  match k with
  | .vram => s.vram
  | .wram0 => s.wram0
  | .wram1 => s.wram1
  | .oam => s.oam
  | .hram => s.hram
  | .cram => s.cram
  | .rtc => s.rtc
  | .rom => s.rom

/-- Replace the array named by `k`. -/
def State.setArray (s : State) (k : ArrayId) (m : Mem) : State :=
  match k with
  | .vram => { s with vram := m }
  | .wram0 => { s with wram0 := m }
  | .wram1 => { s with wram1 := m }
  | .oam => { s with oam := m }
  | .hram => { s with hram := m }
  | .cram => { s with cram := m }
  | .rtc => { s with rtc := m }
  | .rom => { s with rom := m }

/-- `k[i]`. -/
def State.readCell (s : State) (k : ArrayId) (i : Nat) : Byte :=
  (memFind (s.array k) i).getD (unlisted k i)

/-- `k[i] <- v` for a RAM array. -/
def State.writeCell (s : State) (k : ArrayId) (i : Nat) (v : Byte) : State :=
  s.setArray k (memPut (s.array k) i v)

/-- Put a byte into a ROM image: what loading a cartridge does (20_memory.md R98); no step does it. -/
def romPut (m : Mem) (i : Nat) (v : Byte) : Mem :=
  if v = 0x00 then memErase m i else memPut m i v

end Machine
end Sys2Proof
end

