-- ==== Sys2Proof/Machine/Bus.lean ====
section
/-! DEFINITION. The Bus decoder (20_memory.md Part A): one read and one write of one byte, total over the address space. -/

namespace Sys2Proof.Machine

/-- The twelve ranges of 20_memory.md R60, with the port 0xFF0F told apart (R74). -/
inductive Region where
  | romFixed | romBanked | vram | cartRam | wram0 | wram1 | echo | oam | unusable | ifPort | port | hram | iePort
  deriving DecidableEq, Repr

/-- The table of 20_memory.md R60. -/
def region (addr : Word) : Region :=
  let n := addr.toNat
  if n < 0x4000 then .romFixed
  else if n < 0x8000 then .romBanked
  else if n < 0xA000 then .vram
  else if n < 0xC000 then .cartRam
  else if n < 0xD000 then .wram0
  else if n < 0xE000 then .wram1
  else if n < 0xFE00 then .echo
  else if n < 0xFEA0 then .oam
  else if n < 0xFF00 then .unusable
  else if n = 0xFF0F then .ifPort
  else if n < 0xFF80 then .port
  else if n < 0xFFFF then .hram
  else .iePort

/-- Work RAM at `n` in `0xC000..0xDFFF` (R67). -/
def wramLoc (n : Nat) : Loc :=
  if n < 0xD000 then .cell .wram0 (n - 0xC000) else .cell .wram1 (n - 0xD000)

/-- Where an address leads now: R63 to R69, R72 to R76. The echo is the same backing byte as `addr - 0x2000` (R68). -/
def State.locate (s : State) (addr : Word) : Loc :=
  let n := addr.toNat
  match region addr with
  | .romFixed => .rom (romOffset s.mbc s.romBanks addr)
  | .romBanked => .rom (romOffset s.mbc s.romBanks addr)
  | .vram => .cell .vram (n - 0x8000)
  | .cartRam => mbcRamLoc s.mbc s.ramBytes addr
  | .wram0 => wramLoc n
  | .wram1 => wramLoc n
  | .echo => wramLoc (n - 0x2000)
  | .oam => .cell .oam (n - 0xFE00)
  | .unusable => .unusable
  | .ifPort => .ifPort
  | .port => .port
  | .hram => .cell .hram (n - 0xFF80)
  | .iePort => .iePort

/-- The byte a read at a location returns. -/
def State.readLoc (s : State) (loc : Loc) (addr : Word) : Byte :=
  match loc with
  | .rom off => s.readCell .rom off
  | .cell k i => s.readCell k i
  | .nibble i => 0xF0 ||| s.readCell .cram i
  | .absent => 0xFF
  | .unusable => Config.unusableRead
  | .port => Config.portRead s.ports s.cycles addr
  | .ifPort => 0xE0 ||| s.ifReg.setWidth 8
  | .iePort => s.ieReg

/-- The byte `MemRead(addr, 1)` returns (R61). -/
def State.peek (s : State) (addr : Word) : Byte := s.readLoc (s.locate addr) addr

/-- The record the model keeps of a read: a port read is one more question to the oracle (R73, log 7); any other read
changes nothing (R61). -/
def State.noteRead (s : State) (addr : Word) : State :=
  match s.locate addr with
  | .port => { s with ports := .cpuRead s.cycles addr :: s.ports }
  | _ => s

/-- `MemRead(addr, 1)` (R61). -/
def State.memRead (s : State) (addr : Word) : Byte × State := (s.peek addr, s.noteRead addr)

/-- A write at a location. -/
def State.writeLoc (s : State) (loc : Loc) (addr : Word) (v : Byte) : State :=
  match loc with
  | .rom _ => { s with mbc := mbcControl s.mbc addr v }
  | .cell k i => s.writeCell k i v
  | .nibble i => s.writeCell .cram i (v &&& 0x0F)
  | .absent => s
  | .unusable => s
  | .port => { s with ports := .cpuWrite s.cycles addr v :: s.ports }
  | .ifPort => { s with ifReg := v.setWidth 5 }
  | .iePort => { s with ieReg := v }

/-- `MemWrite(addr, 1, v)` (R62). It never fails. -/
def State.memWrite (s : State) (addr : Word) (v : Byte) : State := s.writeLoc (s.locate addr) addr v

/-- One Bus access by the CPU, for its effect on the state. -/
def State.busAccess (s : State) (x : BusAccess) : State :=
  match x with
  | .read addr => (s.memRead addr).2
  | .write addr v => s.memWrite addr v

/-- Bus accesses in order. -/
def State.busAccesses (s : State) : List BusAccess → State
  | [] => s
  | x :: xs => (s.busAccess x).busAccesses xs

/-- `MemWrite(addr, 2, v)` (00_scope.md R12): the low byte at `addr`, then the high byte at `addr + 1`. -/
def State.memWrite16 (s : State) (addr v : Word) : State :=
  (s.memWrite addr (loByte v)).memWrite (addr + 1) (hiByte v)

end Sys2Proof.Machine
end

