-- ==== Sys2Proof/Machine/Flags.lean ====
section
/-! DEFINITION. The flags (10_state.md R23, R24) and every pure function of the ALU (40_alu_primitives.md; `spadd` of 44_alu16.md R284). -/

namespace Sys2Proof.Machine

/-- `Z = F[7]`. -/
def State.flagZ (s : State) : Bool := s.f.getLsbD 7
/-- `N = F[6]`. -/
def State.flagN (s : State) : Bool := s.f.getLsbD 6
/-- `H = F[5]`. -/
def State.flagH (s : State) : Bool := s.f.getLsbD 5
/-- `C = F[4]`. -/
def State.flagC (s : State) : Bool := s.f.getLsbD 4

/-- The flag byte with the four flags at their bits and a zero low nibble (R24). -/
def packFlags (z n h c : Bool) : Byte := bitAt z 7 ||| bitAt n 6 ||| bitAt h 5 ||| bitAt c 4

/-- The only way `F` is written: it stores `v & 0xF0` (R23). -/
def State.setF (s : State) (v : Byte) : State := { s with f := v &&& 0xF0 }

/-- `flags <- (z, n, h, c)`; an unchanged flag is passed as it is. -/
def State.setFlags (s : State) (z n h c : Bool) : State := s.setF (packFlags z n h c)

/-- An 8-bit result with its four flags. -/
structure AluRes where
  res : Byte
  z : Bool
  n : Bool
  h : Bool
  c : Bool
  deriving DecidableEq, Repr

/-- The low nibble of a byte as a number: `a & 0x0F`. -/
def lowNibble (a : Byte) : Nat := (a &&& 0x0F).toNat

/-- R160. -/
def add8 (a b : Byte) (cin : Bool) : AluRes :=
  let sum := a.toNat + b.toNat + cin.toNat
  let res := BitVec.ofNat 8 sum
  { res := res, z := res == 0, n := false
    h := decide (lowNibble a + lowNibble b + cin.toNat > 0x0F)
    c := decide (sum > 255) }

/-- R161. -/
def sub8 (a b : Byte) (cin : Bool) : AluRes :=
  let diff : Int := (a.toNat : Int) - b.toNat - cin.toNat
  let res := BitVec.ofInt 8 diff
  { res := res, z := res == 0, n := true
    h := decide ((lowNibble a : Int) - lowNibble b - cin.toNat < 0)
    c := decide (diff < 0) }

/-- R162: the sum, H from bit 11, C from bit 15. -/
def add16 (a b : Word) : Word × Bool × Bool :=
  let sum := a.toNat + b.toNat
  (BitVec.ofNat 16 sum,
    decide ((a &&& 0x0FFF).toNat + (b &&& 0x0FFF).toNat > 0x0FFF),
    decide (sum > 0xFFFF))

/-- R163. Both tests of the additive branch are on `A` before the instruction. -/
def daa (a : Byte) (n h c : Bool) : AluRes :=
  if n then
    let t := if c then a - 0x60 else a
    let t := if h then t - 0x06 else t
    { res := t, z := t == 0, n := n, h := false, c := c }
  else
    let hiFix := c || decide (a.toNat > 0x99)
    let loFix := h || decide (lowNibble a > 0x09)
    let t := if hiFix then a + 0x60 else a
    let t := if loFix then t + 0x06 else t
    { res := t, z := t == 0, n := n, h := false, c := hiFix }

/-- R164: `c` is the Carry flag before, unchanged. -/
def inc8 (a : Byte) (c : Bool) : AluRes :=
  let res := a + 1
  { res := res, z := res == 0, n := false, h := decide (lowNibble a = 0x0F), c := c }

/-- R164. -/
def dec8 (a : Byte) (c : Bool) : AluRes :=
  let res := a - 1
  { res := res, z := res == 0, n := true, h := decide (lowNibble a = 0x00), c := c }

/-- R165. -/
def and8 (a b : Byte) : AluRes :=
  { res := a &&& b, z := (a &&& b) == 0, n := false, h := true, c := false }

/-- R165. -/
def or8 (a b : Byte) : AluRes :=
  { res := a ||| b, z := (a ||| b) == 0, n := false, h := false, c := false }

/-- R165. -/
def xor8 (a b : Byte) : AluRes :=
  { res := a ^^^ b, z := (a ^^^ b) == 0, n := false, h := false, c := false }

/-- R165: `z` and `c` are the flags before, unchanged. -/
def cpl8 (a : Byte) (z c : Bool) : AluRes :=
  { res := a ^^^ 0xFF, z := z, n := true, h := true, c := c }

/-- The eight ALU operations on `A` and an operand (30_encoding.md R137); `cin` is Carry before the instruction. -/
def aluFn (op : AluOp) (a b : Byte) (cin : Bool) : AluRes :=
  match op with
  | .add => add8 a b false
  | .adc => add8 a b cin
  | .sub => sub8 a b false
  | .sbc => sub8 a b cin
  | .and => and8 a b
  | .xor => xor8 a b
  | .or => or8 a b
  | .cp => sub8 a b false

/-- R166. -/
def rlc8 (v : Byte) : Byte × Bool := ((v <<< 1) ||| bitAt (v.getLsbD 7) 0, v.getLsbD 7)
/-- R167. -/
def rrc8 (v : Byte) : Byte × Bool := ((v >>> 1) ||| bitAt (v.getLsbD 0) 7, v.getLsbD 0)
/-- R168. -/
def rl8 (v : Byte) (cin : Bool) : Byte × Bool := ((v <<< 1) ||| bitAt cin 0, v.getLsbD 7)
/-- R169. -/
def rr8 (v : Byte) (cin : Bool) : Byte × Bool := ((v >>> 1) ||| bitAt cin 7, v.getLsbD 0)
/-- R170. -/
def sla8 (v : Byte) : Byte × Bool := (v <<< 1, v.getLsbD 7)
/-- R171. -/
def sra8 (v : Byte) : Byte × Bool := ((v >>> 1) ||| (v &&& 0x80), v.getLsbD 0)
/-- R172. -/
def srl8 (v : Byte) : Byte × Bool := (v >>> 1, v.getLsbD 0)
/-- R173: Carry is cleared. -/
def swap8 (v : Byte) : Byte × Bool := (((v &&& 0x0F) <<< 4) ||| (v >>> 4), false)

/-- The shift and rotate kinds (30_encoding.md R139): the result and Carry. -/
def shiftFn (k : ShiftOp) (v : Byte) (cin : Bool) : Byte × Bool :=
  match k with
  | .rlc => rlc8 v
  | .rrc => rrc8 v
  | .rl => rl8 v cin
  | .rr => rr8 v cin
  | .sla => sla8 v
  | .sra => sra8 v
  | .swap => swap8 v
  | .srl => srl8 v

/-- R174: Zero is the inverse of the tested bit. -/
def bit8 (b : Fin 8) (v : Byte) : Bool := !v.getLsbD b.val

/-- R175. -/
def res8 (b : Fin 8) (v : Byte) : Byte := v &&& ~~~(1#8 <<< b.val)

/-- R175. -/
def set8 (b : Fin 8) (v : Byte) : Byte := v ||| (1#8 <<< b.val)

/-- 44_alu16.md R284: the sum, H, C, by `SPADD_FLAGS`. -/
def spadd (mode : SpaddFlags) (sp : Word) (e : Byte) : Word × Bool × Bool :=
  let off := sext16 e
  let res := sp + off
  match mode with
  | .wide =>
    (res, decide ((sp &&& 0x0FFF).toNat + (off &&& 0x0FFF).toNat > 0x0FFF),
      decide (sp.toNat + off.toNat > 0xFFFF))
  | .narrow =>
    (res, decide ((sp &&& 0x000F).toNat + lowNibble e > 0x0F),
      decide ((sp &&& 0x00FF).toNat + e.toNat > 0xFF))

end Sys2Proof.Machine
end

