-- ==== Sys2Proof/Machine/Operands.lean ====
section
/-! DEFINITION. The operand classes: 8-bit registers, register pairs, stack pairs and conditions (30_encoding.md R134 to R138). -/

namespace Sys2Proof.Machine

/-- Read an 8-bit register (R134). -/
def State.reg (s : State) (r : Reg8) : Byte :=
  match r with
  | .b => s.b
  | .c => s.c
  | .d => s.d
  | .e => s.e
  | .h => s.h
  | .l => s.l
  | .a => s.a

/-- Write an 8-bit register. -/
def State.setReg (s : State) (r : Reg8) (v : Byte) : State :=
  match r with
  | .b => { s with b := v }
  | .c => { s with c := v }
  | .d => { s with d := v }
  | .e => { s with e := v }
  | .h => { s with h := v }
  | .l => { s with l := v }
  | .a => { s with a := v }

/-- `BC = B ++ C` (10_state.md R22). -/
def State.bc (s : State) : Word := joinBytes s.b s.c
/-- `DE = D ++ E`. -/
def State.de (s : State) : Word := joinBytes s.d s.e
/-- `HL = H ++ L`. -/
def State.hl (s : State) : Word := joinBytes s.h s.l
/-- `AF = A ++ F`. -/
def State.af (s : State) : Word := joinBytes s.a s.f

/-- Read `rr` (R135). -/
def State.pair (s : State) (p : Pair) : Word :=
  match p with
  | .bc => s.bc
  | .de => s.de
  | .hl => s.hl
  | .sp => s.sp

/-- Write `rr`: the high register gets `v[15:8]`, the low one `v[7:0]` (10_state.md R22). -/
def State.setPair (s : State) (p : Pair) (v : Word) : State :=
  match p with
  | .bc => { s with b := hiByte v, c := loByte v }
  | .de => { s with d := hiByte v, e := loByte v }
  | .hl => { s with h := hiByte v, l := loByte v }
  | .sp => { s with sp := v }

/-- Read `qq` (R136). -/
def State.stackPair (s : State) (q : StackPair) : Word :=
  match q with
  | .bc => s.bc
  | .de => s.de
  | .hl => s.hl
  | .af => s.af

/-- Write `qq`; a write of `AF` keeps the low nibble of `F` zero (10_state.md R23). -/
def State.setStackPair (s : State) (q : StackPair) (v : Word) : State :=
  match q with
  | .bc => s.setPair .bc v
  | .de => s.setPair .de v
  | .hl => s.setPair .hl v
  | .af => { s with a := hiByte v }.setF (loByte v)

/-- Whether a condition holds (10_state.md R25, R138). -/
def State.cond (s : State) (cc : Cond) : Bool :=
  match cc with
  | .nz => !s.flagZ
  | .z => s.flagZ
  | .nc => !s.flagC
  | .c => s.flagC

end Sys2Proof.Machine
end

