-- ==== Sys2Proof/Machine/Ops.lean ====
section
/-! DEFINITION. The named operations every instruction and the step share: cycles, fetch, stack, taking an interrupt and returning
from one, the phases of a step before its instruction executes. -/

namespace Sys2Proof.Machine

/-- `cycles n` (00_scope.md R12). -/
def State.tick (s : State) (n : Nat) : State := { s with cycles := s.cycles + n }

/-- `Fetch8()` (00_scope.md R12): a Bus read at `PC`, then `PC <- PC + 1`. -/
def State.fetch8 (s : State) : Byte × State :=
  ((s.memRead s.pc).1, { (s.memRead s.pc).2 with pc := s.pc + 1 })

/-- The first `n` bytes at `PC`, fetched one after the other. -/
def State.fetchBytes (s : State) : Nat → List Byte × State
  | 0 => ([], s)
  | n + 1 => (s.fetch8.1 :: (s.fetch8.2.fetchBytes n).1, (s.fetch8.2.fetchBytes n).2)

/-- Fetch one whole instruction: the opcode, then the bytes its format has (30_encoding.md R130, R144). `PC` ends past its last byte
(10_state.md R26). -/
def State.fetchInstr (s : State) : Instr × State :=
  let op := s.fetch8
  match opcodeFormat op.1 with
  | .f0 => (decodePrimary op.1 0 0, op.2)
  | .f1 => (decodePrimary op.1 op.2.fetch8.1 0, op.2.fetch8.2)
  | .f2 =>
    let lo := op.2.fetch8
    let hi := lo.2.fetch8
    (decodePrimary op.1 lo.1 hi.1, hi.2)
  | .fcb => (decodeSecondary op.2.fetch8.1, op.2.fetch8.2)

/-- `Push16(v)` (00_scope.md R12): high byte at `SP - 1`, then low byte at `SP - 2`. -/
def State.push16 (s : State) (v : Word) : State :=
  let s1 := { s with sp := s.sp - 1 }.memWrite (s.sp - 1) (hiByte v)
  { s1 with sp := s.sp - 2 }.memWrite (s.sp - 2) (loByte v)

/-- `Pop16()` (00_scope.md R12): the low byte at `SP`, then the high byte at `SP + 1`. -/
def State.pop16 (s : State) : Word × State :=
  let lo := s.memRead s.sp
  let hi := lo.2.memRead (s.sp + 1)
  (joinBytes hi.1 lo.1, { hi.2 with sp := s.sp + 2 })

/-- `pend = IF & IE & 0x1F` (60_exceptions.md R400). -/
def State.pending (s : State) : BitVec 5 := s.ifReg &&& s.ieReg.setWidth 5

/-- The index of the lowest set bit: the highest priority (R403, R404). -/
def lowestSet (p : BitVec 5) : Nat :=
  if p.getLsbD 0 then 0
  else if p.getLsbD 1 then 1
  else if p.getLsbD 2 then 2
  else if p.getLsbD 3 then 3
  else 4

/-- The vector of source `i`: `0x0040 + 8*i` (R403, R405). -/
def vector (i : Nat) : Word := BitVec.ofNat 16 (0x0040 + 8 * i)

/-- Taking the interrupt of source `i`, the one exception of CORE, in the order of 60_exceptions.md R405: `IME` and the one-shot
cleared, `PC` pushed, `PC` at the vector, the source's `IF` bit cleared on the `IF` the pushes left, 20 cycles. -/
def State.takeInterrupt (s : State) (i : Nat) : State :=
  let s1 := { s with ime := false, imePending := false }.push16 s.pc
  { s1 with pc := vector i, ifReg := s1.ifReg &&& ~~~(1#5 <<< i) }.tick 20

/-- Returning from an interrupt (46_control_flow.md R339, 60_exceptions.md R412): `PC <- Pop16()` and the one-shot armed. -/
def State.returnFromInterrupt (s : State) : State :=
  { s.pop16.2 with pc := s.pop16.1, imePending := true }

/-- Wake from halt (60_exceptions.md R401). -/
def State.wake (s : State) : State :=
  if s.run = .halted ∧ s.pending ≠ 0 then { s with run := .running } else s

/-- Consumption of the one-shot (60_exceptions.md R402). -/
def State.consumeOneShot (s : State) : State :=
  if s.imePending then { s with ime := true, imePending := false } else s

/-- What the phases of a step before its execute phase leave. -/
inductive Boundary where
  /-- The step is over: an interrupt was dispatched, or the machine ticked in the halted state. -/
  | finished (s : State)
  /-- The step goes on to fetch and execute one instruction. -/
  | execute (s : State)

/-- The phases of `Step()` before the fetch, in the order of 60_exceptions.md R400: wake, dispatch check, halted tick,
consumption of the one-shot. -/
def State.boundary (s : State) : Boundary :=
  if s.ime = true ∧ s.pending ≠ 0 then .finished (s.wake.takeInterrupt (lowestSet s.pending))
  else if s.wake.run = .halted then .finished (s.wake.tick 4)
  else .execute s.wake.consumeOneShot

end Sys2Proof.Machine
end

