-- ==== Sys2Proof/Machine/Alu16.lean ====
section
/-! DEFINITION. 16-bit arithmetic (44_alu16.md R280 to R284; `spadd` is in Flags.lean). -/

namespace Sys2Proof.Machine

/-- `ADD HL,rr` (R280): Zero unchanged, N cleared, H and C of `add16`, 8 cycles. -/
def addHLPair (p : Pair) (s : State) : State :=
  let r := add16 s.hl (s.pair p)
  ((s.setPair .hl r.1).setFlags s.flagZ false r.2.1 r.2.2).tick 8

/-- `INC rr` (R281): no flag, 8 cycles. -/
def incPair (p : Pair) (s : State) : State := (s.setPair p (s.pair p + 1)).tick 8

/-- `DEC rr` (R282): no flag, 8 cycles. -/
def decPair (p : Pair) (s : State) : State := (s.setPair p (s.pair p - 1)).tick 8

/-- `ADD SP,e` (R283): Z and N cleared, H and C of `spadd`, 16 cycles. -/
def addSpadd (e : Byte) (s : State) : State :=
  let r := spadd s.spaddFlags s.sp e
  ({ s with sp := r.1 }.setFlags false false r.2.1 r.2.2).tick 16

/-- `ADD HL,BC` (R280). -/
def execAddHLBC (s : State) : Result := .next (addHLPair .bc s)

/-- `ADD HL,DE` (R280). -/
def execAddHLDE (s : State) : Result := .next (addHLPair .de s)

/-- `ADD HL,HL` (R280). -/
def execAddHLHL (s : State) : Result := .next (addHLPair .hl s)

/-- `ADD HL,SP` (R280). -/
def execAddHLSP (s : State) : Result := .next (addHLPair .sp s)

/-- `INC BC` (R281). -/
def execIncBC (s : State) : Result := .next (incPair .bc s)

/-- `INC DE` (R281). -/
def execIncDE (s : State) : Result := .next (incPair .de s)

/-- `INC HL` (R281). -/
def execIncHL (s : State) : Result := .next (incPair .hl s)

/-- `INC SP` (R281). -/
def execIncSP (s : State) : Result := .next (incPair .sp s)

/-- `DEC BC` (R282). -/
def execDecBC (s : State) : Result := .next (decPair .bc s)

/-- `DEC DE` (R282). -/
def execDecDE (s : State) : Result := .next (decPair .de s)

/-- `DEC HL` (R282). -/
def execDecHL (s : State) : Result := .next (decPair .hl s)

/-- `DEC SP` (R282). -/
def execDecSP (s : State) : Result := .next (decPair .sp s)

/-- `ADD SP,e` (R283). -/
def execAddSPe (e : Byte) (s : State) : Result := .next (addSpadd e s)

end Sys2Proof.Machine
end

