-- ==== Sys2Proof/Machine/Alu8.lean ====
section
/-! DEFINITION. 8-bit arithmetic and logic (43_alu8.md R240 to R271). -/

namespace Sys2Proof.Machine

/-- `A <- res; flags <- (z,n,h,c)`, where `CP` writes the flags only (R261). -/
def State.setAlu (s : State) (op : AluOp) (r : AluRes) : State :=
  (match op with
    | .cp => s
    | .add => { s with a := r.res }
    | .adc => { s with a := r.res }
    | .sub => { s with a := r.res }
    | .sbc => { s with a := r.res }
    | .and => { s with a := r.res }
    | .xor => { s with a := r.res }
    | .or => { s with a := r.res }).setFlags r.z r.n r.h r.c

/-- An ALU operation on `A` and the value `x`. -/
def aluOn (op : AluOp) (x : Byte) (cycles : Nat) (s : State) : State :=
  (s.setAlu op (aluFn op s.a x s.flagC)).tick cycles

/-- On `A` and a register (R240, R243, R246, R249, R252, R255, R258, R261): 4 cycles. -/
def aluReg (op : AluOp) (src : Reg8) (s : State) : State := aluOn op (s.reg src) 4 s

/-- On `A` and `(HL)` (R241, R244, R247, R250, R253, R256, R259, R262): 8 cycles. -/
def aluHL (op : AluOp) (s : State) : State := aluOn op (s.memRead s.hl).1 8 (s.memRead s.hl).2

/-- On `A` and `n` (R242, R245, R248, R251, R254, R257, R260, R263): 8 cycles. -/
def aluImm (op : AluOp) (n : Byte) (s : State) : State := aluOn op n 8 s

/-- `INC r` (R264): 4 cycles, Carry unchanged. -/
def incReg (dst : Reg8) (s : State) : State :=
  let r := inc8 (s.reg dst) s.flagC
  ((s.setReg dst r.res).setFlags r.z r.n r.h r.c).tick 4

/-- `DEC r` (R266): 4 cycles, Carry unchanged. -/
def decReg (dst : Reg8) (s : State) : State :=
  let r := dec8 (s.reg dst) s.flagC
  ((s.setReg dst r.res).setFlags r.z r.n r.h r.c).tick 4

/-- Read `(HL)`, write the result back, set the flags: `INC (HL)` and `DEC (HL)` (R265, R267), 12 cycles. -/
def stepHL (fn : Byte → Bool → AluRes) (s : State) : State :=
  let v := s.memRead s.hl
  let r := fn v.1 s.flagC
  ((v.2.memWrite s.hl r.res).setFlags r.z r.n r.h r.c).tick 12

/-- `DAA` (R268): 4 cycles. -/
def adjustA (s : State) : State :=
  let r := daa s.a s.flagN s.flagH s.flagC
  ({ s with a := r.res }.setFlags r.z r.n r.h r.c).tick 4

/-- `CPL` (R269): 4 cycles. -/
def complementA (s : State) : State :=
  let r := cpl8 s.a s.flagZ s.flagC
  ({ s with a := r.res }.setFlags r.z r.n r.h r.c).tick 4

/-- `ADD A,B` (R240). -/
def execAddAB (s : State) : Result := .next (aluReg .add .b s)

/-- `ADD A,C` (R240). -/
def execAddAC (s : State) : Result := .next (aluReg .add .c s)

/-- `ADD A,D` (R240). -/
def execAddAD (s : State) : Result := .next (aluReg .add .d s)

/-- `ADD A,E` (R240). -/
def execAddAE (s : State) : Result := .next (aluReg .add .e s)

/-- `ADD A,H` (R240). -/
def execAddAH (s : State) : Result := .next (aluReg .add .h s)

/-- `ADD A,L` (R240). -/
def execAddAL (s : State) : Result := .next (aluReg .add .l s)

/-- `ADD A,A` (R240). -/
def execAddAA (s : State) : Result := .next (aluReg .add .a s)

/-- `ADD A,(HL)` (R241). -/
def execAddAAtHL (s : State) : Result := .next (aluHL .add s)

/-- `ADD A,n` (R242). -/
def execAddAn (n : Byte) (s : State) : Result := .next (aluImm .add n s)

/-- `ADC A,B` (R243). -/
def execAdcAB (s : State) : Result := .next (aluReg .adc .b s)

/-- `ADC A,C` (R243). -/
def execAdcAC (s : State) : Result := .next (aluReg .adc .c s)

/-- `ADC A,D` (R243). -/
def execAdcAD (s : State) : Result := .next (aluReg .adc .d s)

/-- `ADC A,E` (R243). -/
def execAdcAE (s : State) : Result := .next (aluReg .adc .e s)

/-- `ADC A,H` (R243). -/
def execAdcAH (s : State) : Result := .next (aluReg .adc .h s)

/-- `ADC A,L` (R243). -/
def execAdcAL (s : State) : Result := .next (aluReg .adc .l s)

/-- `ADC A,A` (R243). -/
def execAdcAA (s : State) : Result := .next (aluReg .adc .a s)

/-- `ADC A,(HL)` (R244). -/
def execAdcAAtHL (s : State) : Result := .next (aluHL .adc s)

/-- `ADC A,n` (R245). -/
def execAdcAn (n : Byte) (s : State) : Result := .next (aluImm .adc n s)

/-- `SUB B` (R246). -/
def execSubB (s : State) : Result := .next (aluReg .sub .b s)

/-- `SUB C` (R246). -/
def execSubC (s : State) : Result := .next (aluReg .sub .c s)

/-- `SUB D` (R246). -/
def execSubD (s : State) : Result := .next (aluReg .sub .d s)

/-- `SUB E` (R246). -/
def execSubE (s : State) : Result := .next (aluReg .sub .e s)

/-- `SUB H` (R246). -/
def execSubH (s : State) : Result := .next (aluReg .sub .h s)

/-- `SUB L` (R246). -/
def execSubL (s : State) : Result := .next (aluReg .sub .l s)

/-- `SUB A` (R246). -/
def execSubA (s : State) : Result := .next (aluReg .sub .a s)

/-- `SUB (HL)` (R247). -/
def execSubAtHL (s : State) : Result := .next (aluHL .sub s)

/-- `SUB n` (R248). -/
def execSubn (n : Byte) (s : State) : Result := .next (aluImm .sub n s)

/-- `SBC A,B` (R249). -/
def execSbcAB (s : State) : Result := .next (aluReg .sbc .b s)

/-- `SBC A,C` (R249). -/
def execSbcAC (s : State) : Result := .next (aluReg .sbc .c s)

/-- `SBC A,D` (R249). -/
def execSbcAD (s : State) : Result := .next (aluReg .sbc .d s)

/-- `SBC A,E` (R249). -/
def execSbcAE (s : State) : Result := .next (aluReg .sbc .e s)

/-- `SBC A,H` (R249). -/
def execSbcAH (s : State) : Result := .next (aluReg .sbc .h s)

/-- `SBC A,L` (R249). -/
def execSbcAL (s : State) : Result := .next (aluReg .sbc .l s)

/-- `SBC A,A` (R249). -/
def execSbcAA (s : State) : Result := .next (aluReg .sbc .a s)

/-- `SBC A,(HL)` (R250). -/
def execSbcAAtHL (s : State) : Result := .next (aluHL .sbc s)

/-- `SBC A,n` (R251). -/
def execSbcAn (n : Byte) (s : State) : Result := .next (aluImm .sbc n s)

/-- `AND B` (R252). -/
def execAndB (s : State) : Result := .next (aluReg .and .b s)

/-- `AND C` (R252). -/
def execAndC (s : State) : Result := .next (aluReg .and .c s)

/-- `AND D` (R252). -/
def execAndD (s : State) : Result := .next (aluReg .and .d s)

/-- `AND E` (R252). -/
def execAndE (s : State) : Result := .next (aluReg .and .e s)

/-- `AND H` (R252). -/
def execAndH (s : State) : Result := .next (aluReg .and .h s)

/-- `AND L` (R252). -/
def execAndL (s : State) : Result := .next (aluReg .and .l s)

/-- `AND A` (R252). -/
def execAndA (s : State) : Result := .next (aluReg .and .a s)

/-- `AND (HL)` (R253). -/
def execAndAtHL (s : State) : Result := .next (aluHL .and s)

/-- `AND n` (R254). -/
def execAndn (n : Byte) (s : State) : Result := .next (aluImm .and n s)

/-- `XOR B` (R255). -/
def execXorB (s : State) : Result := .next (aluReg .xor .b s)

/-- `XOR C` (R255). -/
def execXorC (s : State) : Result := .next (aluReg .xor .c s)

/-- `XOR D` (R255). -/
def execXorD (s : State) : Result := .next (aluReg .xor .d s)

/-- `XOR E` (R255). -/
def execXorE (s : State) : Result := .next (aluReg .xor .e s)

/-- `XOR H` (R255). -/
def execXorH (s : State) : Result := .next (aluReg .xor .h s)

/-- `XOR L` (R255). -/
def execXorL (s : State) : Result := .next (aluReg .xor .l s)

/-- `XOR A` (R255). -/
def execXorA (s : State) : Result := .next (aluReg .xor .a s)

/-- `XOR (HL)` (R256). -/
def execXorAtHL (s : State) : Result := .next (aluHL .xor s)

/-- `XOR n` (R257). -/
def execXorn (n : Byte) (s : State) : Result := .next (aluImm .xor n s)

/-- `OR B` (R258). -/
def execOrB (s : State) : Result := .next (aluReg .or .b s)

/-- `OR C` (R258). -/
def execOrC (s : State) : Result := .next (aluReg .or .c s)

/-- `OR D` (R258). -/
def execOrD (s : State) : Result := .next (aluReg .or .d s)

/-- `OR E` (R258). -/
def execOrE (s : State) : Result := .next (aluReg .or .e s)

/-- `OR H` (R258). -/
def execOrH (s : State) : Result := .next (aluReg .or .h s)

/-- `OR L` (R258). -/
def execOrL (s : State) : Result := .next (aluReg .or .l s)

/-- `OR A` (R258). -/
def execOrA (s : State) : Result := .next (aluReg .or .a s)

/-- `OR (HL)` (R259). -/
def execOrAtHL (s : State) : Result := .next (aluHL .or s)

/-- `OR n` (R260). -/
def execOrn (n : Byte) (s : State) : Result := .next (aluImm .or n s)

/-- `CP B` (R261). -/
def execCpB (s : State) : Result := .next (aluReg .cp .b s)

/-- `CP C` (R261). -/
def execCpC (s : State) : Result := .next (aluReg .cp .c s)

/-- `CP D` (R261). -/
def execCpD (s : State) : Result := .next (aluReg .cp .d s)

/-- `CP E` (R261). -/
def execCpE (s : State) : Result := .next (aluReg .cp .e s)

/-- `CP H` (R261). -/
def execCpH (s : State) : Result := .next (aluReg .cp .h s)

/-- `CP L` (R261). -/
def execCpL (s : State) : Result := .next (aluReg .cp .l s)

/-- `CP A` (R261). -/
def execCpA (s : State) : Result := .next (aluReg .cp .a s)

/-- `CP (HL)` (R262). -/
def execCpAtHL (s : State) : Result := .next (aluHL .cp s)

/-- `CP n` (R263). -/
def execCpn (n : Byte) (s : State) : Result := .next (aluImm .cp n s)

/-- `INC B` (R264). -/
def execIncB (s : State) : Result := .next (incReg .b s)

/-- `INC C` (R264). -/
def execIncC (s : State) : Result := .next (incReg .c s)

/-- `INC D` (R264). -/
def execIncD (s : State) : Result := .next (incReg .d s)

/-- `INC E` (R264). -/
def execIncE (s : State) : Result := .next (incReg .e s)

/-- `INC H` (R264). -/
def execIncH (s : State) : Result := .next (incReg .h s)

/-- `INC L` (R264). -/
def execIncL (s : State) : Result := .next (incReg .l s)

/-- `INC A` (R264). -/
def execIncA (s : State) : Result := .next (incReg .a s)

/-- `INC (HL)` (R265). -/
def execIncAtHL (s : State) : Result := .next (stepHL inc8 s)

/-- `DEC B` (R266). -/
def execDecB (s : State) : Result := .next (decReg .b s)

/-- `DEC C` (R266). -/
def execDecC (s : State) : Result := .next (decReg .c s)

/-- `DEC D` (R266). -/
def execDecD (s : State) : Result := .next (decReg .d s)

/-- `DEC E` (R266). -/
def execDecE (s : State) : Result := .next (decReg .e s)

/-- `DEC H` (R266). -/
def execDecH (s : State) : Result := .next (decReg .h s)

/-- `DEC L` (R266). -/
def execDecL (s : State) : Result := .next (decReg .l s)

/-- `DEC A` (R266). -/
def execDecA (s : State) : Result := .next (decReg .a s)

/-- `DEC (HL)` (R267). -/
def execDecAtHL (s : State) : Result := .next (stepHL dec8 s)

/-- `DAA` (R268). -/
def execDaa (s : State) : Result := .next (adjustA s)

/-- `CPL` (R269). -/
def execCpl (s : State) : Result := .next (complementA s)

/-- `SCF` (R270). -/
def execScf (s : State) : Result := .next ((s.setFlags s.flagZ false false true).tick 4)

/-- `CCF` (R271). -/
def execCcf (s : State) : Result := .next ((s.setFlags s.flagZ false false (!s.flagC)).tick 4)

end Sys2Proof.Machine
end

