-- ==== Sys2Proof/Machine/Control.lean ====
section
/-! DEFINITION. Jumps, calls, returns and restarts (46_control_flow.md R330 to R340). `PC` on entry is the address after the instruction. No flag changes. -/

namespace Sys2Proof.Machine

/-- `PC <- target`. -/
def jumpTo (target : Word) (cycles : Nat) (s : State) : State := { s with pc := target }.tick cycles

/-- `Push16(PC); PC <- target` (R335, R336, R340). -/
def callTo (target : Word) (cycles : Nat) (s : State) : State := { s.push16 s.pc with pc := target }.tick cycles

/-- `PC <- Pop16()` (R337, R338). -/
def returnTo (cycles : Nat) (s : State) : State := { s.pop16.2 with pc := s.pop16.1 }.tick cycles

/-- `JP cc,nn` (R331): 16 cycles if taken, 12 if not. -/
def jumpIf (cc : Cond) (nn : Word) (s : State) : State := if s.cond cc then jumpTo nn 16 s else s.tick 12

/-- `JR cc,e` (R334): 12 cycles if taken, 8 if not. -/
def jumpRelIf (cc : Cond) (e : Byte) (s : State) : State :=
  if s.cond cc then jumpTo (s.pc + sext16 e) 12 s else s.tick 8

/-- `CALL cc,nn` (R336): 24 cycles if taken, 12 if not. -/
def callIf (cc : Cond) (nn : Word) (s : State) : State := if s.cond cc then callTo nn 24 s else s.tick 12

/-- `RET cc` (R338): 20 cycles if taken, 8 if not. -/
def returnIf (cc : Cond) (s : State) : State := if s.cond cc then returnTo 20 s else s.tick 8

/-- `RST t` (R340): a call to `8*t`, 16 cycles. -/
def restart (t : Fin 8) (s : State) : State := callTo (BitVec.ofNat 16 (8 * t.val)) 16 s

/-- `JP nn` (R330). -/
def execJpnn (nn : Word) (s : State) : Result := .next (jumpTo nn 16 s)

/-- `JP NZ,nn` (R331). -/
def execJpNZnn (nn : Word) (s : State) : Result := .next (jumpIf .nz nn s)

/-- `JP Z,nn` (R331). -/
def execJpZnn (nn : Word) (s : State) : Result := .next (jumpIf .z nn s)

/-- `JP NC,nn` (R331). -/
def execJpNCnn (nn : Word) (s : State) : Result := .next (jumpIf .nc nn s)

/-- `JP C,nn` (R331). -/
def execJpCnn (nn : Word) (s : State) : Result := .next (jumpIf .c nn s)

/-- `JP HL` (R332). -/
def execJpHL (s : State) : Result := .next (jumpTo s.hl 4 s)

/-- `JR e` (R333). -/
def execJre (e : Byte) (s : State) : Result := .next (jumpTo (s.pc + sext16 e) 12 s)

/-- `JR NZ,e` (R334). -/
def execJrNZe (e : Byte) (s : State) : Result := .next (jumpRelIf .nz e s)

/-- `JR Z,e` (R334). -/
def execJrZe (e : Byte) (s : State) : Result := .next (jumpRelIf .z e s)

/-- `JR NC,e` (R334). -/
def execJrNCe (e : Byte) (s : State) : Result := .next (jumpRelIf .nc e s)

/-- `JR C,e` (R334). -/
def execJrCe (e : Byte) (s : State) : Result := .next (jumpRelIf .c e s)

/-- `CALL nn` (R335). -/
def execCallnn (nn : Word) (s : State) : Result := .next (callTo nn 24 s)

/-- `CALL NZ,nn` (R336). -/
def execCallNZnn (nn : Word) (s : State) : Result := .next (callIf .nz nn s)

/-- `CALL Z,nn` (R336). -/
def execCallZnn (nn : Word) (s : State) : Result := .next (callIf .z nn s)

/-- `CALL NC,nn` (R336). -/
def execCallNCnn (nn : Word) (s : State) : Result := .next (callIf .nc nn s)

/-- `CALL C,nn` (R336). -/
def execCallCnn (nn : Word) (s : State) : Result := .next (callIf .c nn s)

/-- `RET` (R337). -/
def execRet (s : State) : Result := .next (returnTo 16 s)

/-- `RET NZ` (R338). -/
def execRetNZ (s : State) : Result := .next (returnIf .nz s)

/-- `RET Z` (R338). -/
def execRetZ (s : State) : Result := .next (returnIf .z s)

/-- `RET NC` (R338). -/
def execRetNC (s : State) : Result := .next (returnIf .nc s)

/-- `RET C` (R338). -/
def execRetC (s : State) : Result := .next (returnIf .c s)

/-- `RETI` (R339). -/
def execReti (s : State) : Result := .next (s.returnFromInterrupt.tick 16)

/-- `RST 00H` (R340). -/
def execRst00H (s : State) : Result := .next (restart 0 s)

/-- `RST 08H` (R340). -/
def execRst08H (s : State) : Result := .next (restart 1 s)

/-- `RST 10H` (R340). -/
def execRst10H (s : State) : Result := .next (restart 2 s)

/-- `RST 18H` (R340). -/
def execRst18H (s : State) : Result := .next (restart 3 s)

/-- `RST 20H` (R340). -/
def execRst20H (s : State) : Result := .next (restart 4 s)

/-- `RST 28H` (R340). -/
def execRst28H (s : State) : Result := .next (restart 5 s)

/-- `RST 30H` (R340). -/
def execRst30H (s : State) : Result := .next (restart 6 s)

/-- `RST 38H` (R340). -/
def execRst38H (s : State) : Result := .next (restart 7 s)

end Sys2Proof.Machine
end

