-- ==== Sys2Proof/Machine/Cpu.lean ====
section
/-! DEFINITION. CPU control and the illegal opcodes (47_cpu_control.md R350 to R356). -/

namespace Sys2Proof.Machine

/-- An instruction that only lets 4 cycles pass: `NOP` (R350) and, as the spec adopts them, the eleven illegal opcodes (R356). -/
def idle (s : State) : State := s.tick 4

/-- `NOP` (R350). -/
def execNop (s : State) : Result := .next (idle s)

/-- `HALT` (R351). -/
def execHalt (s : State) : Result := .next ({ s with run := .halted }.tick 4)

/-- `DI` (R352). -/
def execDi (s : State) : Result := .next ({ s with ime := false }.tick 4)

/-- `EI` (R354). -/
def execEi (s : State) : Result := .next ({ s with imePending := true }.tick 4)

/-- The state a step function for `STOP` leaves: its Bus accesses happen in order, every register is as it says, and the cycles are added.
`F` stores `v & 0xF0` (10_state.md R23), and an armed one-shot is never left in the halted state (60_exceptions.md R402). The cartridge and the
build parameters are no state (10_state.md R21), so no step function reaches them. -/
def State.adoptStop (s : State) (x : StopEffect) : State :=
  { s.busAccesses x.accesses with
    a := x.a, f := x.f &&& 0xF0, b := x.b, c := x.c, d := x.d, e := x.e, h := x.h, l := x.l, sp := x.sp, pc := x.pc
    ime := x.ime, imePending := x.imePending && decide (x.run = RunState.running), run := x.run }.tick x.cycles

/-- `STOP` (R353): its meaning is the build parameter `STOP_BEHAVIOUR`: the default refuses; the rule's named instance is a 4-cycle
no-op of length 1; any other step function is one of `Config.stopStep` (log 10). -/
def execStop (s : State) : Result :=
  match s.stopBehaviour with
  | .refuse => .refused .stopUnspecified
  | .noop => .next (idle s)
  | .step k => .next (s.adoptStop (Config.stopStep k s))

/-- `ILLEGAL_D3` (R356). -/
def execIllegalD3 (s : State) : Result := .next (idle s)

/-- `ILLEGAL_DB` (R356). -/
def execIllegalDB (s : State) : Result := .next (idle s)

/-- `ILLEGAL_DD` (R356). -/
def execIllegalDD (s : State) : Result := .next (idle s)

/-- `ILLEGAL_E3` (R356). -/
def execIllegalE3 (s : State) : Result := .next (idle s)

/-- `ILLEGAL_E4` (R356). -/
def execIllegalE4 (s : State) : Result := .next (idle s)

/-- `ILLEGAL_EB` (R356). -/
def execIllegalEB (s : State) : Result := .next (idle s)

/-- `ILLEGAL_EC` (R356). -/
def execIllegalEC (s : State) : Result := .next (idle s)

/-- `ILLEGAL_ED` (R356). -/
def execIllegalED (s : State) : Result := .next (idle s)

/-- `ILLEGAL_F4` (R356). -/
def execIllegalF4 (s : State) : Result := .next (idle s)

/-- `ILLEGAL_FC` (R356). -/
def execIllegalFC (s : State) : Result := .next (idle s)

/-- `ILLEGAL_FD` (R356). -/
def execIllegalFD (s : State) : Result := .next (idle s)

end Sys2Proof.Machine
end

