-- ==== Sys2Proof/Machine/Load16.lean ====
section
/-! DEFINITION. 16-bit loads and the stack (42_load16_stack.md R230 to R235). -/

namespace Sys2Proof.Machine

/-- `LD rr,nn` (R230): 12 cycles. -/
def ldPairImm (p : Pair) (nn : Word) (s : State) : State := (s.setPair p nn).tick 12

/-- `PUSH qq` (R234): 16 cycles. -/
def push (q : StackPair) (s : State) : State := (s.push16 (s.stackPair q)).tick 16

/-- `POP qq` (R235): 12 cycles; `POP AF` writes the flags from bits 7..4 of the low byte. -/
def pop (q : StackPair) (s : State) : State := (s.pop16.2.setStackPair q s.pop16.1).tick 12

/-- `LD HL,SP+e` (R233): `HL <- SP + e`, Z and N cleared, H and C of `spadd`, 12 cycles. -/
def ldHLSpadd (e : Byte) (s : State) : State :=
  let r := spadd s.spaddFlags s.sp e
  ((s.setPair .hl r.1).setFlags false false r.2.1 r.2.2).tick 12

/-- `LD BC,nn` (R230). -/
def execLdBCnn (nn : Word) (s : State) : Result := .next (ldPairImm .bc nn s)

/-- `LD DE,nn` (R230). -/
def execLdDEnn (nn : Word) (s : State) : Result := .next (ldPairImm .de nn s)

/-- `LD HL,nn` (R230). -/
def execLdHLnn (nn : Word) (s : State) : Result := .next (ldPairImm .hl nn s)

/-- `LD SP,nn` (R230). -/
def execLdSPnn (nn : Word) (s : State) : Result := .next (ldPairImm .sp nn s)

/-- `LD (nn),SP` (R231). -/
def execLdAtAddrSP (nn : Word) (s : State) : Result := .next ((s.memWrite16 nn s.sp).tick 20)

/-- `LD SP,HL` (R232). -/
def execLdSPHL (s : State) : Result := .next ({ s with sp := s.hl }.tick 8)

/-- `LD HL,SP+e` (R233). -/
def execLdHLSPe (e : Byte) (s : State) : Result := .next (ldHLSpadd e s)

/-- `PUSH BC` (R234). -/
def execPushBC (s : State) : Result := .next (push .bc s)

/-- `PUSH DE` (R234). -/
def execPushDE (s : State) : Result := .next (push .de s)

/-- `PUSH HL` (R234). -/
def execPushHL (s : State) : Result := .next (push .hl s)

/-- `PUSH AF` (R234). -/
def execPushAF (s : State) : Result := .next (push .af s)

/-- `POP BC` (R235). -/
def execPopBC (s : State) : Result := .next (pop .bc s)

/-- `POP DE` (R235). -/
def execPopDE (s : State) : Result := .next (pop .de s)

/-- `POP HL` (R235). -/
def execPopHL (s : State) : Result := .next (pop .hl s)

/-- `POP AF` (R235). -/
def execPopAF (s : State) : Result := .next (pop .af s)

end Sys2Proof.Machine
end

