-- ==== Sys2Proof/Machine/Load8.lean ====
section
/-! DEFINITION. 8-bit loads (41_load8.md R200 to R218). `PC` is already past the instruction and its immediates are its arguments (log 12). No flag changes. -/

namespace Sys2Proof.Machine

/-- `LD r,r'` (R200): `r[y] <- r[z]`, 4 cycles. -/
def ldRegReg (dst src : Reg8) (s : State) : State := (s.setReg dst (s.reg src)).tick 4

/-- `LD r,n` (R201): 8 cycles. -/
def ldRegImm (dst : Reg8) (n : Byte) (s : State) : State := (s.setReg dst n).tick 8

/-- `LD r,(HL)` (R202): 8 cycles. -/
def ldRegFromHL (dst : Reg8) (s : State) : State :=
  let v := s.memRead s.hl
  (v.2.setReg dst v.1).tick 8

/-- `LD (HL),r` (R203): 8 cycles. -/
def ldHLFromReg (src : Reg8) (s : State) : State := (s.memWrite s.hl (s.reg src)).tick 8

/-- `A <- MemRead(addr, 1)`: `LD A,(BC)`, `LD A,(DE)`, `LD A,(nn)` and the `LDH` loads (R205, R206, R209, R211, R213). -/
def loadA (addr : Word) (cycles : Nat) (s : State) : State :=
  let v := s.memRead addr
  { v.2 with a := v.1 }.tick cycles

/-- `MemWrite(addr, 1, A)`: the stores of `A` (R207, R208, R210, R212, R214). -/
def storeA (addr : Word) (cycles : Nat) (s : State) : State := (s.memWrite addr s.a).tick cycles

/-- `LD A,(HL+)` and `LD A,(HL-)` (R216, R218): the load, then `HL <- HL + step`. -/
def loadAStep (step : Word) (s : State) : State :=
  let v := s.memRead s.hl
  ({ v.2 with a := v.1 }.setPair .hl (s.hl + step)).tick 8

/-- `LD (HL+),A` and `LD (HL-),A` (R215, R217): the store, then `HL <- HL + step`. -/
def storeAStep (step : Word) (s : State) : State :=
  ((s.memWrite s.hl s.a).setPair .hl (s.hl + step)).tick 8

/-- `LD B,B` (R200). -/
def execLdBB (s : State) : Result := .next (ldRegReg .b .b s)

/-- `LD B,C` (R200). -/
def execLdBC (s : State) : Result := .next (ldRegReg .b .c s)

/-- `LD B,D` (R200). -/
def execLdBD (s : State) : Result := .next (ldRegReg .b .d s)

/-- `LD B,E` (R200). -/
def execLdBE (s : State) : Result := .next (ldRegReg .b .e s)

/-- `LD B,H` (R200). -/
def execLdBH (s : State) : Result := .next (ldRegReg .b .h s)

/-- `LD B,L` (R200). -/
def execLdBL (s : State) : Result := .next (ldRegReg .b .l s)

/-- `LD B,A` (R200). -/
def execLdBA (s : State) : Result := .next (ldRegReg .b .a s)

/-- `LD C,B` (R200). -/
def execLdCB (s : State) : Result := .next (ldRegReg .c .b s)

/-- `LD C,C` (R200). -/
def execLdCC (s : State) : Result := .next (ldRegReg .c .c s)

/-- `LD C,D` (R200). -/
def execLdCD (s : State) : Result := .next (ldRegReg .c .d s)

/-- `LD C,E` (R200). -/
def execLdCE (s : State) : Result := .next (ldRegReg .c .e s)

/-- `LD C,H` (R200). -/
def execLdCH (s : State) : Result := .next (ldRegReg .c .h s)

/-- `LD C,L` (R200). -/
def execLdCL (s : State) : Result := .next (ldRegReg .c .l s)

/-- `LD C,A` (R200). -/
def execLdCA (s : State) : Result := .next (ldRegReg .c .a s)

/-- `LD D,B` (R200). -/
def execLdDB (s : State) : Result := .next (ldRegReg .d .b s)

/-- `LD D,C` (R200). -/
def execLdDC (s : State) : Result := .next (ldRegReg .d .c s)

/-- `LD D,D` (R200). -/
def execLdDD (s : State) : Result := .next (ldRegReg .d .d s)

/-- `LD D,E` (R200). -/
def execLdDE (s : State) : Result := .next (ldRegReg .d .e s)

/-- `LD D,H` (R200). -/
def execLdDH (s : State) : Result := .next (ldRegReg .d .h s)

/-- `LD D,L` (R200). -/
def execLdDL (s : State) : Result := .next (ldRegReg .d .l s)

/-- `LD D,A` (R200). -/
def execLdDA (s : State) : Result := .next (ldRegReg .d .a s)

/-- `LD E,B` (R200). -/
def execLdEB (s : State) : Result := .next (ldRegReg .e .b s)

/-- `LD E,C` (R200). -/
def execLdEC (s : State) : Result := .next (ldRegReg .e .c s)

/-- `LD E,D` (R200). -/
def execLdED (s : State) : Result := .next (ldRegReg .e .d s)

/-- `LD E,E` (R200). -/
def execLdEE (s : State) : Result := .next (ldRegReg .e .e s)

/-- `LD E,H` (R200). -/
def execLdEH (s : State) : Result := .next (ldRegReg .e .h s)

/-- `LD E,L` (R200). -/
def execLdEL (s : State) : Result := .next (ldRegReg .e .l s)

/-- `LD E,A` (R200). -/
def execLdEA (s : State) : Result := .next (ldRegReg .e .a s)

/-- `LD H,B` (R200). -/
def execLdHB (s : State) : Result := .next (ldRegReg .h .b s)

/-- `LD H,C` (R200). -/
def execLdHC (s : State) : Result := .next (ldRegReg .h .c s)

/-- `LD H,D` (R200). -/
def execLdHD (s : State) : Result := .next (ldRegReg .h .d s)

/-- `LD H,E` (R200). -/
def execLdHE (s : State) : Result := .next (ldRegReg .h .e s)

/-- `LD H,H` (R200). -/
def execLdHH (s : State) : Result := .next (ldRegReg .h .h s)

/-- `LD H,L` (R200). -/
def execLdHL (s : State) : Result := .next (ldRegReg .h .l s)

/-- `LD H,A` (R200). -/
def execLdHA (s : State) : Result := .next (ldRegReg .h .a s)

/-- `LD L,B` (R200). -/
def execLdLB (s : State) : Result := .next (ldRegReg .l .b s)

/-- `LD L,C` (R200). -/
def execLdLC (s : State) : Result := .next (ldRegReg .l .c s)

/-- `LD L,D` (R200). -/
def execLdLD (s : State) : Result := .next (ldRegReg .l .d s)

/-- `LD L,E` (R200). -/
def execLdLE (s : State) : Result := .next (ldRegReg .l .e s)

/-- `LD L,H` (R200). -/
def execLdLH (s : State) : Result := .next (ldRegReg .l .h s)

/-- `LD L,L` (R200). -/
def execLdLL (s : State) : Result := .next (ldRegReg .l .l s)

/-- `LD L,A` (R200). -/
def execLdLA (s : State) : Result := .next (ldRegReg .l .a s)

/-- `LD A,B` (R200). -/
def execLdAB (s : State) : Result := .next (ldRegReg .a .b s)

/-- `LD A,C` (R200). -/
def execLdAC (s : State) : Result := .next (ldRegReg .a .c s)

/-- `LD A,D` (R200). -/
def execLdAD (s : State) : Result := .next (ldRegReg .a .d s)

/-- `LD A,E` (R200). -/
def execLdAE (s : State) : Result := .next (ldRegReg .a .e s)

/-- `LD A,H` (R200). -/
def execLdAH (s : State) : Result := .next (ldRegReg .a .h s)

/-- `LD A,L` (R200). -/
def execLdAL (s : State) : Result := .next (ldRegReg .a .l s)

/-- `LD A,A` (R200). -/
def execLdAA (s : State) : Result := .next (ldRegReg .a .a s)

/-- `LD B,n` (R201). -/
def execLdBn (n : Byte) (s : State) : Result := .next (ldRegImm .b n s)

/-- `LD C,n` (R201). -/
def execLdCn (n : Byte) (s : State) : Result := .next (ldRegImm .c n s)

/-- `LD D,n` (R201). -/
def execLdDn (n : Byte) (s : State) : Result := .next (ldRegImm .d n s)

/-- `LD E,n` (R201). -/
def execLdEn (n : Byte) (s : State) : Result := .next (ldRegImm .e n s)

/-- `LD H,n` (R201). -/
def execLdHn (n : Byte) (s : State) : Result := .next (ldRegImm .h n s)

/-- `LD L,n` (R201). -/
def execLdLn (n : Byte) (s : State) : Result := .next (ldRegImm .l n s)

/-- `LD A,n` (R201). -/
def execLdAn (n : Byte) (s : State) : Result := .next (ldRegImm .a n s)

/-- `LD B,(HL)` (R202). -/
def execLdBAtHL (s : State) : Result := .next (ldRegFromHL .b s)

/-- `LD C,(HL)` (R202). -/
def execLdCAtHL (s : State) : Result := .next (ldRegFromHL .c s)

/-- `LD D,(HL)` (R202). -/
def execLdDAtHL (s : State) : Result := .next (ldRegFromHL .d s)

/-- `LD E,(HL)` (R202). -/
def execLdEAtHL (s : State) : Result := .next (ldRegFromHL .e s)

/-- `LD H,(HL)` (R202). -/
def execLdHAtHL (s : State) : Result := .next (ldRegFromHL .h s)

/-- `LD L,(HL)` (R202). -/
def execLdLAtHL (s : State) : Result := .next (ldRegFromHL .l s)

/-- `LD A,(HL)` (R202). -/
def execLdAAtHL (s : State) : Result := .next (ldRegFromHL .a s)

/-- `LD (HL),B` (R203). -/
def execLdAtHLB (s : State) : Result := .next (ldHLFromReg .b s)

/-- `LD (HL),C` (R203). -/
def execLdAtHLC (s : State) : Result := .next (ldHLFromReg .c s)

/-- `LD (HL),D` (R203). -/
def execLdAtHLD (s : State) : Result := .next (ldHLFromReg .d s)

/-- `LD (HL),E` (R203). -/
def execLdAtHLE (s : State) : Result := .next (ldHLFromReg .e s)

/-- `LD (HL),H` (R203). -/
def execLdAtHLH (s : State) : Result := .next (ldHLFromReg .h s)

/-- `LD (HL),L` (R203). -/
def execLdAtHLL (s : State) : Result := .next (ldHLFromReg .l s)

/-- `LD (HL),A` (R203). -/
def execLdAtHLA (s : State) : Result := .next (ldHLFromReg .a s)

/-- `LD (HL),n` (R204). -/
def execLdAtHLn (n : Byte) (s : State) : Result := .next ((s.memWrite s.hl n).tick 12)

/-- `LD A,(BC)` (R205). -/
def execLdAAtBC (s : State) : Result := .next (loadA s.bc 8 s)

/-- `LD A,(DE)` (R206). -/
def execLdAAtDE (s : State) : Result := .next (loadA s.de 8 s)

/-- `LD (BC),A` (R207). -/
def execLdAtBCA (s : State) : Result := .next (storeA s.bc 8 s)

/-- `LD (DE),A` (R208). -/
def execLdAtDEA (s : State) : Result := .next (storeA s.de 8 s)

/-- `LD A,(nn)` (R209). -/
def execLdAAtAddr (nn : Word) (s : State) : Result := .next (loadA nn 16 s)

/-- `LD (nn),A` (R210). -/
def execLdAtAddrA (nn : Word) (s : State) : Result := .next (storeA nn 16 s)

/-- `LDH A,(C)` (R211). -/
def execLdhAAtC (s : State) : Result := .next (loadA (highPage s.c) 8 s)

/-- `LDH (C),A` (R212). -/
def execLdhAtCA (s : State) : Result := .next (storeA (highPage s.c) 8 s)

/-- `LDH A,(n)` (R213). -/
def execLdhAAtImm (n : Byte) (s : State) : Result := .next (loadA (highPage n) 12 s)

/-- `LDH (n),A` (R214). -/
def execLdhAtImmA (n : Byte) (s : State) : Result := .next (storeA (highPage n) 12 s)

/-- `LD (HL+),A` (R215). -/
def execLdAtHLIncA (s : State) : Result := .next (storeAStep 1 s)

/-- `LD A,(HL+)` (R216). -/
def execLdAAtHLInc (s : State) : Result := .next (loadAStep 1 s)

/-- `LD (HL-),A` (R217). -/
def execLdAtHLDecA (s : State) : Result := .next (storeAStep (-1) s)

/-- `LD A,(HL-)` (R218). -/
def execLdAAtHLDec (s : State) : Result := .next (loadAStep (-1) s)

end Sys2Proof.Machine
end

