-- ==== Sys2Proof/Machine/Shift.lean ====
section
/-! DEFINITION. Rotates, shifts and bit operations (45_rotate_shift_bit.md R290 to R293, R300 to R321). -/

namespace Sys2Proof.Machine

/-- `RLCA RRCA RLA RRA` (R290 to R293): Zero forced to 0, 4 cycles. -/
def shiftA (k : ShiftOp) (s : State) : State :=
  let r := shiftFn k s.a s.flagC
  ({ s with a := r.1 }.setFlags false false false r.2).tick 4

/-- A prefixed shift or rotate on a register (R300 to R314): `flags <- (res = 0, 0, 0, c)`, 8 cycles. -/
def shiftReg (k : ShiftOp) (dst : Reg8) (s : State) : State :=
  let r := shiftFn k (s.reg dst) s.flagC
  ((s.setReg dst r.1).setFlags (r.1 == 0) false false r.2).tick 8

/-- A prefixed shift or rotate on `(HL)` (R301 to R315): one read, one write, 16 cycles. -/
def shiftHL (k : ShiftOp) (s : State) : State :=
  let v := s.memRead s.hl
  let r := shiftFn k v.1 s.flagC
  ((v.2.memWrite s.hl r.1).setFlags (r.1 == 0) false false r.2).tick 16

/-- `BIT b,r` (R316): Carry unchanged, nothing written, 8 cycles. -/
def bitReg (b : Fin 8) (src : Reg8) (s : State) : State :=
  (s.setFlags (bit8 b (s.reg src)) false true s.flagC).tick 8

/-- `BIT b,(HL)` (R317): one read, no write, 12 cycles. -/
def bitHL (b : Fin 8) (s : State) : State :=
  ((s.memRead s.hl).2.setFlags (bit8 b (s.memRead s.hl).1) false true s.flagC).tick 12

/-- `RES b,r` (R318): no flag, 8 cycles. -/
def resReg (b : Fin 8) (dst : Reg8) (s : State) : State := (s.setReg dst (res8 b (s.reg dst))).tick 8

/-- `SET b,r` (R320): no flag, 8 cycles. -/
def setBitReg (b : Fin 8) (dst : Reg8) (s : State) : State := (s.setReg dst (set8 b (s.reg dst))).tick 8

/-- `RES b,(HL)` (R319): one read, one write, no flag, 16 cycles. -/
def resHL (b : Fin 8) (s : State) : State :=
  ((s.memRead s.hl).2.memWrite s.hl (res8 b (s.memRead s.hl).1)).tick 16

/-- `SET b,(HL)` (R321): one read, one write, no flag, 16 cycles. -/
def setBitHL (b : Fin 8) (s : State) : State :=
  ((s.memRead s.hl).2.memWrite s.hl (set8 b (s.memRead s.hl).1)).tick 16

/-- `RLCA` (R290). -/
def execRlca (s : State) : Result := .next (shiftA .rlc s)

/-- `RRCA` (R291). -/
def execRrca (s : State) : Result := .next (shiftA .rrc s)

/-- `RLA` (R292). -/
def execRla (s : State) : Result := .next (shiftA .rl s)

/-- `RRA` (R293). -/
def execRra (s : State) : Result := .next (shiftA .rr s)

/-- `RLC B` (R300). -/
def execRlcB (s : State) : Result := .next (shiftReg .rlc .b s)

/-- `RLC C` (R300). -/
def execRlcC (s : State) : Result := .next (shiftReg .rlc .c s)

/-- `RLC D` (R300). -/
def execRlcD (s : State) : Result := .next (shiftReg .rlc .d s)

/-- `RLC E` (R300). -/
def execRlcE (s : State) : Result := .next (shiftReg .rlc .e s)

/-- `RLC H` (R300). -/
def execRlcH (s : State) : Result := .next (shiftReg .rlc .h s)

/-- `RLC L` (R300). -/
def execRlcL (s : State) : Result := .next (shiftReg .rlc .l s)

/-- `RLC A` (R300). -/
def execRlcA (s : State) : Result := .next (shiftReg .rlc .a s)

/-- `RLC (HL)` (R301). -/
def execRlcAtHL (s : State) : Result := .next (shiftHL .rlc s)

/-- `RRC B` (R302). -/
def execRrcB (s : State) : Result := .next (shiftReg .rrc .b s)

/-- `RRC C` (R302). -/
def execRrcC (s : State) : Result := .next (shiftReg .rrc .c s)

/-- `RRC D` (R302). -/
def execRrcD (s : State) : Result := .next (shiftReg .rrc .d s)

/-- `RRC E` (R302). -/
def execRrcE (s : State) : Result := .next (shiftReg .rrc .e s)

/-- `RRC H` (R302). -/
def execRrcH (s : State) : Result := .next (shiftReg .rrc .h s)

/-- `RRC L` (R302). -/
def execRrcL (s : State) : Result := .next (shiftReg .rrc .l s)

/-- `RRC A` (R302). -/
def execRrcA (s : State) : Result := .next (shiftReg .rrc .a s)

/-- `RRC (HL)` (R303). -/
def execRrcAtHL (s : State) : Result := .next (shiftHL .rrc s)

/-- `RL B` (R304). -/
def execRlB (s : State) : Result := .next (shiftReg .rl .b s)

/-- `RL C` (R304). -/
def execRlC (s : State) : Result := .next (shiftReg .rl .c s)

/-- `RL D` (R304). -/
def execRlD (s : State) : Result := .next (shiftReg .rl .d s)

/-- `RL E` (R304). -/
def execRlE (s : State) : Result := .next (shiftReg .rl .e s)

/-- `RL H` (R304). -/
def execRlH (s : State) : Result := .next (shiftReg .rl .h s)

/-- `RL L` (R304). -/
def execRlL (s : State) : Result := .next (shiftReg .rl .l s)

/-- `RL A` (R304). -/
def execRlA (s : State) : Result := .next (shiftReg .rl .a s)

/-- `RL (HL)` (R305). -/
def execRlAtHL (s : State) : Result := .next (shiftHL .rl s)

/-- `RR B` (R306). -/
def execRrB (s : State) : Result := .next (shiftReg .rr .b s)

/-- `RR C` (R306). -/
def execRrC (s : State) : Result := .next (shiftReg .rr .c s)

/-- `RR D` (R306). -/
def execRrD (s : State) : Result := .next (shiftReg .rr .d s)

/-- `RR E` (R306). -/
def execRrE (s : State) : Result := .next (shiftReg .rr .e s)

/-- `RR H` (R306). -/
def execRrH (s : State) : Result := .next (shiftReg .rr .h s)

/-- `RR L` (R306). -/
def execRrL (s : State) : Result := .next (shiftReg .rr .l s)

/-- `RR A` (R306). -/
def execRrA (s : State) : Result := .next (shiftReg .rr .a s)

/-- `RR (HL)` (R307). -/
def execRrAtHL (s : State) : Result := .next (shiftHL .rr s)

/-- `SLA B` (R308). -/
def execSlaB (s : State) : Result := .next (shiftReg .sla .b s)

/-- `SLA C` (R308). -/
def execSlaC (s : State) : Result := .next (shiftReg .sla .c s)

/-- `SLA D` (R308). -/
def execSlaD (s : State) : Result := .next (shiftReg .sla .d s)

/-- `SLA E` (R308). -/
def execSlaE (s : State) : Result := .next (shiftReg .sla .e s)

/-- `SLA H` (R308). -/
def execSlaH (s : State) : Result := .next (shiftReg .sla .h s)

/-- `SLA L` (R308). -/
def execSlaL (s : State) : Result := .next (shiftReg .sla .l s)

/-- `SLA A` (R308). -/
def execSlaA (s : State) : Result := .next (shiftReg .sla .a s)

/-- `SLA (HL)` (R309). -/
def execSlaAtHL (s : State) : Result := .next (shiftHL .sla s)

/-- `SRA B` (R310). -/
def execSraB (s : State) : Result := .next (shiftReg .sra .b s)

/-- `SRA C` (R310). -/
def execSraC (s : State) : Result := .next (shiftReg .sra .c s)

/-- `SRA D` (R310). -/
def execSraD (s : State) : Result := .next (shiftReg .sra .d s)

/-- `SRA E` (R310). -/
def execSraE (s : State) : Result := .next (shiftReg .sra .e s)

/-- `SRA H` (R310). -/
def execSraH (s : State) : Result := .next (shiftReg .sra .h s)

/-- `SRA L` (R310). -/
def execSraL (s : State) : Result := .next (shiftReg .sra .l s)

/-- `SRA A` (R310). -/
def execSraA (s : State) : Result := .next (shiftReg .sra .a s)

/-- `SRA (HL)` (R311). -/
def execSraAtHL (s : State) : Result := .next (shiftHL .sra s)

/-- `SWAP B` (R312). -/
def execSwapB (s : State) : Result := .next (shiftReg .swap .b s)

/-- `SWAP C` (R312). -/
def execSwapC (s : State) : Result := .next (shiftReg .swap .c s)

/-- `SWAP D` (R312). -/
def execSwapD (s : State) : Result := .next (shiftReg .swap .d s)

/-- `SWAP E` (R312). -/
def execSwapE (s : State) : Result := .next (shiftReg .swap .e s)

/-- `SWAP H` (R312). -/
def execSwapH (s : State) : Result := .next (shiftReg .swap .h s)

/-- `SWAP L` (R312). -/
def execSwapL (s : State) : Result := .next (shiftReg .swap .l s)

/-- `SWAP A` (R312). -/
def execSwapA (s : State) : Result := .next (shiftReg .swap .a s)

/-- `SWAP (HL)` (R313). -/
def execSwapAtHL (s : State) : Result := .next (shiftHL .swap s)

/-- `SRL B` (R314). -/
def execSrlB (s : State) : Result := .next (shiftReg .srl .b s)

/-- `SRL C` (R314). -/
def execSrlC (s : State) : Result := .next (shiftReg .srl .c s)

/-- `SRL D` (R314). -/
def execSrlD (s : State) : Result := .next (shiftReg .srl .d s)

/-- `SRL E` (R314). -/
def execSrlE (s : State) : Result := .next (shiftReg .srl .e s)

/-- `SRL H` (R314). -/
def execSrlH (s : State) : Result := .next (shiftReg .srl .h s)

/-- `SRL L` (R314). -/
def execSrlL (s : State) : Result := .next (shiftReg .srl .l s)

/-- `SRL A` (R314). -/
def execSrlA (s : State) : Result := .next (shiftReg .srl .a s)

/-- `SRL (HL)` (R315). -/
def execSrlAtHL (s : State) : Result := .next (shiftHL .srl s)

/-- `BIT 0,B` (R316). -/
def execBit0B (s : State) : Result := .next (bitReg 0 .b s)

/-- `BIT 0,C` (R316). -/
def execBit0C (s : State) : Result := .next (bitReg 0 .c s)

/-- `BIT 0,D` (R316). -/
def execBit0D (s : State) : Result := .next (bitReg 0 .d s)

/-- `BIT 0,E` (R316). -/
def execBit0E (s : State) : Result := .next (bitReg 0 .e s)

/-- `BIT 0,H` (R316). -/
def execBit0H (s : State) : Result := .next (bitReg 0 .h s)

/-- `BIT 0,L` (R316). -/
def execBit0L (s : State) : Result := .next (bitReg 0 .l s)

/-- `BIT 0,A` (R316). -/
def execBit0A (s : State) : Result := .next (bitReg 0 .a s)

/-- `BIT 0,(HL)` (R317). -/
def execBit0AtHL (s : State) : Result := .next (bitHL 0 s)

/-- `BIT 1,B` (R316). -/
def execBit1B (s : State) : Result := .next (bitReg 1 .b s)

/-- `BIT 1,C` (R316). -/
def execBit1C (s : State) : Result := .next (bitReg 1 .c s)

/-- `BIT 1,D` (R316). -/
def execBit1D (s : State) : Result := .next (bitReg 1 .d s)

/-- `BIT 1,E` (R316). -/
def execBit1E (s : State) : Result := .next (bitReg 1 .e s)

/-- `BIT 1,H` (R316). -/
def execBit1H (s : State) : Result := .next (bitReg 1 .h s)

/-- `BIT 1,L` (R316). -/
def execBit1L (s : State) : Result := .next (bitReg 1 .l s)

/-- `BIT 1,A` (R316). -/
def execBit1A (s : State) : Result := .next (bitReg 1 .a s)

/-- `BIT 1,(HL)` (R317). -/
def execBit1AtHL (s : State) : Result := .next (bitHL 1 s)

/-- `BIT 2,B` (R316). -/
def execBit2B (s : State) : Result := .next (bitReg 2 .b s)

/-- `BIT 2,C` (R316). -/
def execBit2C (s : State) : Result := .next (bitReg 2 .c s)

/-- `BIT 2,D` (R316). -/
def execBit2D (s : State) : Result := .next (bitReg 2 .d s)

/-- `BIT 2,E` (R316). -/
def execBit2E (s : State) : Result := .next (bitReg 2 .e s)

/-- `BIT 2,H` (R316). -/
def execBit2H (s : State) : Result := .next (bitReg 2 .h s)

/-- `BIT 2,L` (R316). -/
def execBit2L (s : State) : Result := .next (bitReg 2 .l s)

/-- `BIT 2,A` (R316). -/
def execBit2A (s : State) : Result := .next (bitReg 2 .a s)

/-- `BIT 2,(HL)` (R317). -/
def execBit2AtHL (s : State) : Result := .next (bitHL 2 s)

/-- `BIT 3,B` (R316). -/
def execBit3B (s : State) : Result := .next (bitReg 3 .b s)

/-- `BIT 3,C` (R316). -/
def execBit3C (s : State) : Result := .next (bitReg 3 .c s)

/-- `BIT 3,D` (R316). -/
def execBit3D (s : State) : Result := .next (bitReg 3 .d s)

/-- `BIT 3,E` (R316). -/
def execBit3E (s : State) : Result := .next (bitReg 3 .e s)

/-- `BIT 3,H` (R316). -/
def execBit3H (s : State) : Result := .next (bitReg 3 .h s)

/-- `BIT 3,L` (R316). -/
def execBit3L (s : State) : Result := .next (bitReg 3 .l s)

/-- `BIT 3,A` (R316). -/
def execBit3A (s : State) : Result := .next (bitReg 3 .a s)

/-- `BIT 3,(HL)` (R317). -/
def execBit3AtHL (s : State) : Result := .next (bitHL 3 s)

/-- `BIT 4,B` (R316). -/
def execBit4B (s : State) : Result := .next (bitReg 4 .b s)

/-- `BIT 4,C` (R316). -/
def execBit4C (s : State) : Result := .next (bitReg 4 .c s)

/-- `BIT 4,D` (R316). -/
def execBit4D (s : State) : Result := .next (bitReg 4 .d s)

/-- `BIT 4,E` (R316). -/
def execBit4E (s : State) : Result := .next (bitReg 4 .e s)

/-- `BIT 4,H` (R316). -/
def execBit4H (s : State) : Result := .next (bitReg 4 .h s)

/-- `BIT 4,L` (R316). -/
def execBit4L (s : State) : Result := .next (bitReg 4 .l s)

/-- `BIT 4,A` (R316). -/
def execBit4A (s : State) : Result := .next (bitReg 4 .a s)

/-- `BIT 4,(HL)` (R317). -/
def execBit4AtHL (s : State) : Result := .next (bitHL 4 s)

/-- `BIT 5,B` (R316). -/
def execBit5B (s : State) : Result := .next (bitReg 5 .b s)

/-- `BIT 5,C` (R316). -/
def execBit5C (s : State) : Result := .next (bitReg 5 .c s)

/-- `BIT 5,D` (R316). -/
def execBit5D (s : State) : Result := .next (bitReg 5 .d s)

/-- `BIT 5,E` (R316). -/
def execBit5E (s : State) : Result := .next (bitReg 5 .e s)

/-- `BIT 5,H` (R316). -/
def execBit5H (s : State) : Result := .next (bitReg 5 .h s)

/-- `BIT 5,L` (R316). -/
def execBit5L (s : State) : Result := .next (bitReg 5 .l s)

/-- `BIT 5,A` (R316). -/
def execBit5A (s : State) : Result := .next (bitReg 5 .a s)

/-- `BIT 5,(HL)` (R317). -/
def execBit5AtHL (s : State) : Result := .next (bitHL 5 s)

/-- `BIT 6,B` (R316). -/
def execBit6B (s : State) : Result := .next (bitReg 6 .b s)

/-- `BIT 6,C` (R316). -/
def execBit6C (s : State) : Result := .next (bitReg 6 .c s)

/-- `BIT 6,D` (R316). -/
def execBit6D (s : State) : Result := .next (bitReg 6 .d s)

/-- `BIT 6,E` (R316). -/
def execBit6E (s : State) : Result := .next (bitReg 6 .e s)

/-- `BIT 6,H` (R316). -/
def execBit6H (s : State) : Result := .next (bitReg 6 .h s)

/-- `BIT 6,L` (R316). -/
def execBit6L (s : State) : Result := .next (bitReg 6 .l s)

/-- `BIT 6,A` (R316). -/
def execBit6A (s : State) : Result := .next (bitReg 6 .a s)

/-- `BIT 6,(HL)` (R317). -/
def execBit6AtHL (s : State) : Result := .next (bitHL 6 s)

/-- `BIT 7,B` (R316). -/
def execBit7B (s : State) : Result := .next (bitReg 7 .b s)

/-- `BIT 7,C` (R316). -/
def execBit7C (s : State) : Result := .next (bitReg 7 .c s)

/-- `BIT 7,D` (R316). -/
def execBit7D (s : State) : Result := .next (bitReg 7 .d s)

/-- `BIT 7,E` (R316). -/
def execBit7E (s : State) : Result := .next (bitReg 7 .e s)

/-- `BIT 7,H` (R316). -/
def execBit7H (s : State) : Result := .next (bitReg 7 .h s)

/-- `BIT 7,L` (R316). -/
def execBit7L (s : State) : Result := .next (bitReg 7 .l s)

/-- `BIT 7,A` (R316). -/
def execBit7A (s : State) : Result := .next (bitReg 7 .a s)

/-- `BIT 7,(HL)` (R317). -/
def execBit7AtHL (s : State) : Result := .next (bitHL 7 s)

/-- `RES 0,B` (R318). -/
def execRes0B (s : State) : Result := .next (resReg 0 .b s)

/-- `RES 0,C` (R318). -/
def execRes0C (s : State) : Result := .next (resReg 0 .c s)

/-- `RES 0,D` (R318). -/
def execRes0D (s : State) : Result := .next (resReg 0 .d s)

/-- `RES 0,E` (R318). -/
def execRes0E (s : State) : Result := .next (resReg 0 .e s)

/-- `RES 0,H` (R318). -/
def execRes0H (s : State) : Result := .next (resReg 0 .h s)

/-- `RES 0,L` (R318). -/
def execRes0L (s : State) : Result := .next (resReg 0 .l s)

/-- `RES 0,A` (R318). -/
def execRes0A (s : State) : Result := .next (resReg 0 .a s)

/-- `RES 0,(HL)` (R319). -/
def execRes0AtHL (s : State) : Result := .next (resHL 0 s)

/-- `RES 1,B` (R318). -/
def execRes1B (s : State) : Result := .next (resReg 1 .b s)

/-- `RES 1,C` (R318). -/
def execRes1C (s : State) : Result := .next (resReg 1 .c s)

/-- `RES 1,D` (R318). -/
def execRes1D (s : State) : Result := .next (resReg 1 .d s)

/-- `RES 1,E` (R318). -/
def execRes1E (s : State) : Result := .next (resReg 1 .e s)

/-- `RES 1,H` (R318). -/
def execRes1H (s : State) : Result := .next (resReg 1 .h s)

/-- `RES 1,L` (R318). -/
def execRes1L (s : State) : Result := .next (resReg 1 .l s)

/-- `RES 1,A` (R318). -/
def execRes1A (s : State) : Result := .next (resReg 1 .a s)

/-- `RES 1,(HL)` (R319). -/
def execRes1AtHL (s : State) : Result := .next (resHL 1 s)

/-- `RES 2,B` (R318). -/
def execRes2B (s : State) : Result := .next (resReg 2 .b s)

/-- `RES 2,C` (R318). -/
def execRes2C (s : State) : Result := .next (resReg 2 .c s)

/-- `RES 2,D` (R318). -/
def execRes2D (s : State) : Result := .next (resReg 2 .d s)

/-- `RES 2,E` (R318). -/
def execRes2E (s : State) : Result := .next (resReg 2 .e s)

/-- `RES 2,H` (R318). -/
def execRes2H (s : State) : Result := .next (resReg 2 .h s)

/-- `RES 2,L` (R318). -/
def execRes2L (s : State) : Result := .next (resReg 2 .l s)

/-- `RES 2,A` (R318). -/
def execRes2A (s : State) : Result := .next (resReg 2 .a s)

/-- `RES 2,(HL)` (R319). -/
def execRes2AtHL (s : State) : Result := .next (resHL 2 s)

/-- `RES 3,B` (R318). -/
def execRes3B (s : State) : Result := .next (resReg 3 .b s)

/-- `RES 3,C` (R318). -/
def execRes3C (s : State) : Result := .next (resReg 3 .c s)

/-- `RES 3,D` (R318). -/
def execRes3D (s : State) : Result := .next (resReg 3 .d s)

/-- `RES 3,E` (R318). -/
def execRes3E (s : State) : Result := .next (resReg 3 .e s)

/-- `RES 3,H` (R318). -/
def execRes3H (s : State) : Result := .next (resReg 3 .h s)

/-- `RES 3,L` (R318). -/
def execRes3L (s : State) : Result := .next (resReg 3 .l s)

/-- `RES 3,A` (R318). -/
def execRes3A (s : State) : Result := .next (resReg 3 .a s)

/-- `RES 3,(HL)` (R319). -/
def execRes3AtHL (s : State) : Result := .next (resHL 3 s)

/-- `RES 4,B` (R318). -/
def execRes4B (s : State) : Result := .next (resReg 4 .b s)

/-- `RES 4,C` (R318). -/
def execRes4C (s : State) : Result := .next (resReg 4 .c s)

/-- `RES 4,D` (R318). -/
def execRes4D (s : State) : Result := .next (resReg 4 .d s)

/-- `RES 4,E` (R318). -/
def execRes4E (s : State) : Result := .next (resReg 4 .e s)

/-- `RES 4,H` (R318). -/
def execRes4H (s : State) : Result := .next (resReg 4 .h s)

/-- `RES 4,L` (R318). -/
def execRes4L (s : State) : Result := .next (resReg 4 .l s)

/-- `RES 4,A` (R318). -/
def execRes4A (s : State) : Result := .next (resReg 4 .a s)

/-- `RES 4,(HL)` (R319). -/
def execRes4AtHL (s : State) : Result := .next (resHL 4 s)

/-- `RES 5,B` (R318). -/
def execRes5B (s : State) : Result := .next (resReg 5 .b s)

/-- `RES 5,C` (R318). -/
def execRes5C (s : State) : Result := .next (resReg 5 .c s)

/-- `RES 5,D` (R318). -/
def execRes5D (s : State) : Result := .next (resReg 5 .d s)

/-- `RES 5,E` (R318). -/
def execRes5E (s : State) : Result := .next (resReg 5 .e s)

/-- `RES 5,H` (R318). -/
def execRes5H (s : State) : Result := .next (resReg 5 .h s)

/-- `RES 5,L` (R318). -/
def execRes5L (s : State) : Result := .next (resReg 5 .l s)

/-- `RES 5,A` (R318). -/
def execRes5A (s : State) : Result := .next (resReg 5 .a s)

/-- `RES 5,(HL)` (R319). -/
def execRes5AtHL (s : State) : Result := .next (resHL 5 s)

/-- `RES 6,B` (R318). -/
def execRes6B (s : State) : Result := .next (resReg 6 .b s)

/-- `RES 6,C` (R318). -/
def execRes6C (s : State) : Result := .next (resReg 6 .c s)

/-- `RES 6,D` (R318). -/
def execRes6D (s : State) : Result := .next (resReg 6 .d s)

/-- `RES 6,E` (R318). -/
def execRes6E (s : State) : Result := .next (resReg 6 .e s)

/-- `RES 6,H` (R318). -/
def execRes6H (s : State) : Result := .next (resReg 6 .h s)

/-- `RES 6,L` (R318). -/
def execRes6L (s : State) : Result := .next (resReg 6 .l s)

/-- `RES 6,A` (R318). -/
def execRes6A (s : State) : Result := .next (resReg 6 .a s)

/-- `RES 6,(HL)` (R319). -/
def execRes6AtHL (s : State) : Result := .next (resHL 6 s)

/-- `RES 7,B` (R318). -/
def execRes7B (s : State) : Result := .next (resReg 7 .b s)

/-- `RES 7,C` (R318). -/
def execRes7C (s : State) : Result := .next (resReg 7 .c s)

/-- `RES 7,D` (R318). -/
def execRes7D (s : State) : Result := .next (resReg 7 .d s)

/-- `RES 7,E` (R318). -/
def execRes7E (s : State) : Result := .next (resReg 7 .e s)

/-- `RES 7,H` (R318). -/
def execRes7H (s : State) : Result := .next (resReg 7 .h s)

/-- `RES 7,L` (R318). -/
def execRes7L (s : State) : Result := .next (resReg 7 .l s)

/-- `RES 7,A` (R318). -/
def execRes7A (s : State) : Result := .next (resReg 7 .a s)

/-- `RES 7,(HL)` (R319). -/
def execRes7AtHL (s : State) : Result := .next (resHL 7 s)

/-- `SET 0,B` (R320). -/
def execSet0B (s : State) : Result := .next (setBitReg 0 .b s)

/-- `SET 0,C` (R320). -/
def execSet0C (s : State) : Result := .next (setBitReg 0 .c s)

/-- `SET 0,D` (R320). -/
def execSet0D (s : State) : Result := .next (setBitReg 0 .d s)

/-- `SET 0,E` (R320). -/
def execSet0E (s : State) : Result := .next (setBitReg 0 .e s)

/-- `SET 0,H` (R320). -/
def execSet0H (s : State) : Result := .next (setBitReg 0 .h s)

/-- `SET 0,L` (R320). -/
def execSet0L (s : State) : Result := .next (setBitReg 0 .l s)

/-- `SET 0,A` (R320). -/
def execSet0A (s : State) : Result := .next (setBitReg 0 .a s)

/-- `SET 0,(HL)` (R321). -/
def execSet0AtHL (s : State) : Result := .next (setBitHL 0 s)

/-- `SET 1,B` (R320). -/
def execSet1B (s : State) : Result := .next (setBitReg 1 .b s)

/-- `SET 1,C` (R320). -/
def execSet1C (s : State) : Result := .next (setBitReg 1 .c s)

/-- `SET 1,D` (R320). -/
def execSet1D (s : State) : Result := .next (setBitReg 1 .d s)

/-- `SET 1,E` (R320). -/
def execSet1E (s : State) : Result := .next (setBitReg 1 .e s)

/-- `SET 1,H` (R320). -/
def execSet1H (s : State) : Result := .next (setBitReg 1 .h s)

/-- `SET 1,L` (R320). -/
def execSet1L (s : State) : Result := .next (setBitReg 1 .l s)

/-- `SET 1,A` (R320). -/
def execSet1A (s : State) : Result := .next (setBitReg 1 .a s)

/-- `SET 1,(HL)` (R321). -/
def execSet1AtHL (s : State) : Result := .next (setBitHL 1 s)

/-- `SET 2,B` (R320). -/
def execSet2B (s : State) : Result := .next (setBitReg 2 .b s)

/-- `SET 2,C` (R320). -/
def execSet2C (s : State) : Result := .next (setBitReg 2 .c s)

/-- `SET 2,D` (R320). -/
def execSet2D (s : State) : Result := .next (setBitReg 2 .d s)

/-- `SET 2,E` (R320). -/
def execSet2E (s : State) : Result := .next (setBitReg 2 .e s)

/-- `SET 2,H` (R320). -/
def execSet2H (s : State) : Result := .next (setBitReg 2 .h s)

/-- `SET 2,L` (R320). -/
def execSet2L (s : State) : Result := .next (setBitReg 2 .l s)

/-- `SET 2,A` (R320). -/
def execSet2A (s : State) : Result := .next (setBitReg 2 .a s)

/-- `SET 2,(HL)` (R321). -/
def execSet2AtHL (s : State) : Result := .next (setBitHL 2 s)

/-- `SET 3,B` (R320). -/
def execSet3B (s : State) : Result := .next (setBitReg 3 .b s)

/-- `SET 3,C` (R320). -/
def execSet3C (s : State) : Result := .next (setBitReg 3 .c s)

/-- `SET 3,D` (R320). -/
def execSet3D (s : State) : Result := .next (setBitReg 3 .d s)

/-- `SET 3,E` (R320). -/
def execSet3E (s : State) : Result := .next (setBitReg 3 .e s)

/-- `SET 3,H` (R320). -/
def execSet3H (s : State) : Result := .next (setBitReg 3 .h s)

/-- `SET 3,L` (R320). -/
def execSet3L (s : State) : Result := .next (setBitReg 3 .l s)

/-- `SET 3,A` (R320). -/
def execSet3A (s : State) : Result := .next (setBitReg 3 .a s)

/-- `SET 3,(HL)` (R321). -/
def execSet3AtHL (s : State) : Result := .next (setBitHL 3 s)

/-- `SET 4,B` (R320). -/
def execSet4B (s : State) : Result := .next (setBitReg 4 .b s)

/-- `SET 4,C` (R320). -/
def execSet4C (s : State) : Result := .next (setBitReg 4 .c s)

/-- `SET 4,D` (R320). -/
def execSet4D (s : State) : Result := .next (setBitReg 4 .d s)

/-- `SET 4,E` (R320). -/
def execSet4E (s : State) : Result := .next (setBitReg 4 .e s)

/-- `SET 4,H` (R320). -/
def execSet4H (s : State) : Result := .next (setBitReg 4 .h s)

/-- `SET 4,L` (R320). -/
def execSet4L (s : State) : Result := .next (setBitReg 4 .l s)

/-- `SET 4,A` (R320). -/
def execSet4A (s : State) : Result := .next (setBitReg 4 .a s)

/-- `SET 4,(HL)` (R321). -/
def execSet4AtHL (s : State) : Result := .next (setBitHL 4 s)

/-- `SET 5,B` (R320). -/
def execSet5B (s : State) : Result := .next (setBitReg 5 .b s)

/-- `SET 5,C` (R320). -/
def execSet5C (s : State) : Result := .next (setBitReg 5 .c s)

/-- `SET 5,D` (R320). -/
def execSet5D (s : State) : Result := .next (setBitReg 5 .d s)

/-- `SET 5,E` (R320). -/
def execSet5E (s : State) : Result := .next (setBitReg 5 .e s)

/-- `SET 5,H` (R320). -/
def execSet5H (s : State) : Result := .next (setBitReg 5 .h s)

/-- `SET 5,L` (R320). -/
def execSet5L (s : State) : Result := .next (setBitReg 5 .l s)

/-- `SET 5,A` (R320). -/
def execSet5A (s : State) : Result := .next (setBitReg 5 .a s)

/-- `SET 5,(HL)` (R321). -/
def execSet5AtHL (s : State) : Result := .next (setBitHL 5 s)

/-- `SET 6,B` (R320). -/
def execSet6B (s : State) : Result := .next (setBitReg 6 .b s)

/-- `SET 6,C` (R320). -/
def execSet6C (s : State) : Result := .next (setBitReg 6 .c s)

/-- `SET 6,D` (R320). -/
def execSet6D (s : State) : Result := .next (setBitReg 6 .d s)

/-- `SET 6,E` (R320). -/
def execSet6E (s : State) : Result := .next (setBitReg 6 .e s)

/-- `SET 6,H` (R320). -/
def execSet6H (s : State) : Result := .next (setBitReg 6 .h s)

/-- `SET 6,L` (R320). -/
def execSet6L (s : State) : Result := .next (setBitReg 6 .l s)

/-- `SET 6,A` (R320). -/
def execSet6A (s : State) : Result := .next (setBitReg 6 .a s)

/-- `SET 6,(HL)` (R321). -/
def execSet6AtHL (s : State) : Result := .next (setBitHL 6 s)

/-- `SET 7,B` (R320). -/
def execSet7B (s : State) : Result := .next (setBitReg 7 .b s)

/-- `SET 7,C` (R320). -/
def execSet7C (s : State) : Result := .next (setBitReg 7 .c s)

/-- `SET 7,D` (R320). -/
def execSet7D (s : State) : Result := .next (setBitReg 7 .d s)

/-- `SET 7,E` (R320). -/
def execSet7E (s : State) : Result := .next (setBitReg 7 .e s)

/-- `SET 7,H` (R320). -/
def execSet7H (s : State) : Result := .next (setBitReg 7 .h s)

/-- `SET 7,L` (R320). -/
def execSet7L (s : State) : Result := .next (setBitReg 7 .l s)

/-- `SET 7,A` (R320). -/
def execSet7A (s : State) : Result := .next (setBitReg 7 .a s)

/-- `SET 7,(HL)` (R321). -/
def execSet7AtHL (s : State) : Result := .next (setBitHL 7 s)

end Sys2Proof.Machine
end

