-- ==== Sys2Proof/Machine/Load.lean ====
section
/-! DEFINITION. Loading a cartridge (20_memory.md R98 to R103, 70_reset_and_hazards.md R450, R460), and placing code in front of the
fetch for the host's `withFetchWord` (log 4, log 24). Neither is part of a step. -/

namespace Sys2Proof.Machine

/-- `MBC_KIND` of the cartridge-type byte (R100), with its registers at their reset values (R450). -/
def mbcOfHeader (code : Byte) : Option Mbc :=
  if code ∈ [0x00, 0x08, 0x09] then some .none
  else if code ∈ [0x01, 0x02, 0x03] then some (.mbc1 false 0 0 false)
  else if code ∈ [0x05, 0x06] then some (.mbc2 false 0)
  else if code ∈ [0x0F, 0x10, 0x11, 0x12, 0x13] then some (.mbc3 false 0 0)
  else none

/-- `ROM_BANKS` of the ROM-size byte (R102): the customary table. -/
def romBanksOfHeader (code : Byte) : Option Nat :=
  if code.toNat ≤ 8 then some (2 ^ (code.toNat + 1)) else none

/-- `RAM_BYTES` of the RAM-size byte (R103): the customary table. -/
def ramBytesOfHeader (code : Byte) : Option Nat :=
  if code = 0x00 then some 0
  else if code = 0x01 then some 2048
  else if code = 0x02 then some 8192
  else if code = 0x03 then some 32768
  else if code = 0x04 then some 131072
  else if code = 0x05 then some 65536
  else none

/-- The size of cartridge RAM: on MBC2 the header value is ignored and the RAM is the built-in 512 cells (R103, R114; log 22). -/
def ramBytesFor (mbc : Mbc) (code : Byte) : Option Nat :=
  match mbc with
  | .mbc2 _ _ => some 512
  | _ => ramBytesOfHeader code

/-- The image's bytes from index `i` on, as the array `rom` (0x00 unlisted, log 4). -/
def romOfImage (i : Nat) : List Byte → Mem
  | [] => []
  | v :: rest => if v = 0x00 then romOfImage (i + 1) rest else (i, v) :: romOfImage (i + 1) rest

/-- Construct CORE from a raw ROM image (R101), in its reset state (R450), or fail for good (R460). -/
def load (image : List Byte) : Except Fault State :=
  let kind := image.getD 0x147 0
  let romCode := image.getD 0x148 0
  let ramCode := image.getD 0x149 0
  if image.length < 0x14A then .error .imageLength
  else
    match mbcOfHeader kind with
    | none => .error (.unrecognizedType kind)
    | some mbc =>
      match romBanksOfHeader romCode with
      | none => .error (.undefinedRomSize romCode)
      | some banks =>
        if image.length = 16384 * banks then
          match ramBytesFor mbc ramCode with
          | none => .error (.undefinedRamSize ramCode)
          | some ramBytes => .ok (State.resetWith mbc (romOfImage 0 image) banks ramBytes)
        else .error .imageLength

/-- Whether a byte of code can be placed at an address so that a fetch there returns it. -/
def State.canHold (s : State) (addr : Word) : Bool :=
  match s.locate addr with
  | .rom _ => true
  | .cell .rtc _ => false
  | .cell .cram _ => decide (3 ≤ s.ramBytes)
  | .cell _ _ => true
  | _ => false

/-- Put a byte behind an address: into the ROM image, or into the RAM array. -/
def State.placeByte (s : State) (addr : Word) (v : Byte) : State :=
  match s.locate addr with
  | .rom off => { s with rom := romPut s.rom off v }
  | .cell k i => s.writeCell k i v
  | _ => s

/-- Put bytes behind consecutive addresses. -/
def State.placeBytes (s : State) (addr : Word) : List Byte → State
  | [] => s
  | v :: rest => (s.placeByte addr v).placeBytes (addr + 1) rest

/-- `s` with three bytes placed where its next step fetches, and ready to fetch them: awake, and no interrupt taken first. Where `PC`
points at something that holds no code byte (a port, `IF`, `IE`, the unusable range, absent RAM), `PC` moves to work RAM. -/
def State.placeCode (s : State) (bytes : List Byte) : State :=
  let s := if s.run = .halted then { s with run := .running } else s
  let s := if s.ime = true ∧ s.pending ≠ 0 then { s with ifReg := 0 } else s
  let s :=
    if s.canHold s.pc && s.canHold (s.pc + 1) && s.canHold (s.pc + 2) then s else { s with pc := 0xC000 }
  s.placeBytes s.pc bytes

end Sys2Proof.Machine
end

