-- ==== Sys2Proof/Machine/Step.lean ====
section
/-! DEFINITION. The step relation (60_exceptions.md R400) and the host's `withFetchWord`. -/

namespace Sys2Proof.Machine

/-- `Step()`: wake, dispatch or halted tick (all in `State.boundary`), else consume the one-shot, fetch one instruction and
execute it. -/
def step (s : State) : Host.Outcome State Fault Refusal :=
  match s.boundary with
  | .finished t => .next t
  | .execute t => exec t.fetchInstr.1 t.fetchInstr.2

/-- `s` with the instruction whose opcode-table bits are `w` stored where `step` fetches next (log 1, log 24). -/
def State.withFetchWord (s : State) (nbits w : Nat) : State := s.placeCode (tableBytes nbits w)

end Sys2Proof.Machine
end

