-- ==== Sys2Proof/Machine/Env.lean ====
section
/-! DEFINITION. The agent Env (00_scope.md R8, 60_exceptions.md R408, R410): what the outside may do to CORE between two steps. No step does
any of it (log 11). -/

namespace Sys2Proof.Machine

/-- One action of Env. -/
inductive EnvAct where
  /-- A Bus read of any address (R8). -/
  | busRead (addr : Word)
  /-- A Bus write of any address: raise or clear requests in `IF`, write `IE`, VRAM, OAM, cartridge RAM, an MBC register (R8, D36). -/
  | busWrite (addr : Word) (v : Byte)
  /-- A change of I/O-port state that the collaborators make by themselves (R8), such as a timer that counts; `k` tells one change from
  another (log 8). -/
  | portChange (k : Nat)
  /-- The save layer's restore of element `i` of cartridge RAM (70_reset_and_hazards.md R452). -/
  | restoreCart (i : Nat) (v : Byte)
  deriving DecidableEq, Repr

/-- The number of elements of cartridge RAM: 512 cells for MBC2 (20_memory.md R114), else `RAM_BYTES`. -/
def State.cramSize (s : State) : Nat :=
  match s.mbc with
  | .mbc2 _ _ => 512
  | _ => s.ramBytes

/-- Restore one element of cartridge RAM; MBC2's are 4 bits. -/
def State.restoreCart (s : State) (i : Nat) (v : Byte) : State :=
  if i < s.cramSize then
    match s.mbc with
    | .mbc2 _ _ => s.writeCell .cram i (v &&& 0x0F)
    | _ => s.writeCell .cram i v
  else s

/-- An event at the I/O ports that Env brings about: later port reads may answer otherwise (R73; log 7). -/
def State.envPort (s : State) (x : PortEvent) : State := { s with ports := x :: s.ports }

/-- A Bus read by Env: the byte, and the state after it. A port read is answered by the oracle and must not be assumed idempotent
(20_memory.md R85); any other read changes nothing (R61). -/
def State.envRead (s : State) (addr : Word) : Byte × State :=
  (s.peek addr, if s.locate addr = .port then s.envPort (.envRead s.cycles addr) else s)

/-- A Bus write by Env: of a port it changes I/O-port state, of any other address it is the Bus write of R62. -/
def State.envWrite (s : State) (addr : Word) (v : Byte) : State :=
  if s.locate addr = .port then s.envPort (.envWrite s.cycles addr v) else s.memWrite addr v

/-- One action of Env. -/
def State.envAct (s : State) (act : EnvAct) : State :=
  match act with
  | .busRead addr => (s.envRead addr).2
  | .busWrite addr v => s.envWrite addr v
  | .portChange k => s.envPort (.envChange s.cycles k)
  | .restoreCart i v => s.restoreCart i v

/-- Everything Env does between two steps. -/
def State.envActs (s : State) : List EnvAct → State
  | [] => s
  | act :: acts => (s.envAct act).envActs acts

end Sys2Proof.Machine
end

