-- ==== Sys2Proof/Safety.lean ====
section
/-! DEFINITION. What the statements are made of: the invariant of the machine, and the frames (what an instruction leaves unchanged). -/

namespace Sys2Proof.Machine

/-! ## Field codes, for saying what an encoding is -/

/-- The code of a register (30_encoding.md R134). -/
def regCode : Reg8 → Nat
  | .b => 0 | .c => 1 | .d => 2 | .e => 3 | .h => 4 | .l => 5 | .a => 7

/-- The code of a pair `rr` (R135). -/
def pairCode : Pair → Nat
  | .bc => 0 | .de => 1 | .hl => 2 | .sp => 3

/-- The code of a stack pair `qq` (R136). -/
def stackPairCode : StackPair → Nat
  | .bc => 0 | .de => 1 | .hl => 2 | .af => 3

/-- The code of an ALU operation (R137). -/
def aluCode : AluOp → Nat
  | .add => 0 | .adc => 1 | .sub => 2 | .sbc => 3 | .and => 4 | .xor => 5 | .or => 6 | .cp => 7

/-- The code of a condition (R138). -/
def condCode : Cond → Nat
  | .nz => 0 | .z => 1 | .nc => 2 | .c => 3

/-- The code of a shift kind (R139). -/
def shiftCode : ShiftOp → Nat
  | .rlc => 0 | .rrc => 1 | .rl => 2 | .rr => 3 | .sla => 4 | .sra => 5 | .swap => 6 | .srl => 7

/-- A byte from its number. -/
def byteOf (n : Nat) : Byte := BitVec.ofNat 8 n

/-! ## The invariant -/

/-- Every byte array is in canonical form and within its size (10_state.md R33), the ROM image lists no 0x00 (log 4), and MBC2's cells hold 4 bits
(20_memory.md R114). -/
def State.memOk (s : State) : Bool :=
  memWf s.vram && memBelow 8192 s.vram && memWf s.wram0 && memBelow 4096 s.wram0 &&
  memWf s.wram1 && memBelow 4096 s.wram1 && memWf s.oam && memBelow 160 s.oam &&
  memWf s.hram && memBelow 127 s.hram && memWf s.cram && memBelow s.cramSize s.cram &&
  memWf s.rtc && memBelow 5 s.rtc && romWf s.rom &&
  (match s.mbc with
    | .mbc2 _ _ => s.cram.all fun x => decide (x.2.toNat < 16)
    | _ => true)

/-- The invariant: "`F`'s low nibble is always zero" (10_state.md R23); the arrays are well formed; an armed one-shot is never seen in
the halted state (60_exceptions.md R402). -/
abbrev State.Inv (s : State) : Prop :=
  s.f &&& 0x0F = 0 ∧ s.memOk = true ∧ (s.imePending = true → s.run = .running)

/-! ## Frames -/

/-- `IME`, the one-shot and the run state. -/
def SameInterrupts (s t : State) : Prop :=
  t.ime = s.ime ∧ t.imePending = s.imePending ∧ t.run = s.run

/-- The cartridge image and the build parameters (10_state.md R21). -/
def SameBuild (s t : State) : Prop :=
  t.rom = s.rom ∧ t.romBanks = s.romBanks ∧ t.ramBytes = s.ramBytes ∧
  t.spaddFlags = s.spaddFlags ∧ t.stopBehaviour = s.stopBehaviour

/-- Every 8-bit register but those listed, the interrupt state, the cartridge and the build parameters are as before. `SP`, `PC`, `F`,
memory and `cycles` are said apart. -/
def SameBut (rs : List Reg8) (s t : State) : Prop :=
  (∀ r, r ∉ rs → t.reg r = s.reg r) ∧ SameInterrupts s t ∧ SameBuild s t

/-- All of memory: every byte reads as before (a port's answer is Env's, 20_memory.md R73), and every array, MBC register, `IF`
and `IE` is as before. -/
def SameMemory (s t : State) : Prop :=
  (∀ addr, s.locate addr ≠ .port → t.peek addr = s.peek addr) ∧
  (∀ k, t.array k = s.array k) ∧ t.mbc = s.mbc ∧ t.ifReg = s.ifReg ∧ t.ieReg = s.ieReg

/-- The four flags, and the low nibble of `F` zero (10_state.md R23, R24). -/
def FlagsAre (t : State) (z n h c : Bool) : Prop :=
  t.flagZ = z ∧ t.flagN = n ∧ t.flagH = h ∧ t.flagC = c ∧ t.f &&& 0x0F = 0

/-- The port record after a Bus read of `addr`: one question to the oracle if it is a port, else nothing new (20_memory.md R73). -/
def portsAfterRead (s : State) (addr : Word) : List PortEvent :=
  if s.locate addr = .port then .cpuRead s.cycles addr :: s.ports else s.ports

/-- The port record after the first `n` bytes at `PC` were fetched: each byte that came from a port is one more CPU read (20_memory.md
R73, R92; log 7). -/
def portsAfterFetch (s : State) : Nat → List PortEvent
  | 0 => s.ports
  | n + 1 => portsAfterRead { s with ports := portsAfterFetch s n } (s.pc + BitVec.ofNat 16 n)

/-- What one Bus write of `v` at `addr` does to memory, and that it does nothing else (20_memory.md R62, R64). Below 0x8000 it is an
MBC control write, elsewhere the MBC registers stay. Every element of every byte array is as before, but for the one behind `addr`.
From 0x8000 up every address that does not lead where `addr` leads reads as before (every address, where `addr` holds nothing).
A RAM byte reads back as written. `IF` and `IE` change only through their own addresses. A port write is handed to Env. -/
def StoredByte (addr : Word) (v : Byte) (s t : State) : Prop :=
  t.mbc = (if addr.toNat < 0x8000 then mbcControl s.mbc addr v else s.mbc) ∧
  (∀ k i, t.readCell k i =
    if s.locate addr = .cell k i then v
    else if k = .cram ∧ s.locate addr = .nibble i then v &&& 0x0F
    else s.readCell k i) ∧
  (0x8000 ≤ addr.toNat → ∀ a, s.locate a ≠ .port →
    (s.locate a ≠ s.locate addr ∨ s.locate addr = .absent ∨ s.locate addr = .unusable) → t.peek a = s.peek a) ∧
  (∀ k i, s.locate addr = .cell k i → t.peek addr = v) ∧
  (∀ i, s.locate addr = .nibble i → t.peek addr = 0xF0 ||| v) ∧
  t.ifReg = (if s.locate addr = .ifPort then v.setWidth 5 else s.ifReg) ∧
  t.ieReg = (if s.locate addr = .iePort then v else s.ieReg) ∧
  t.ports = (if s.locate addr = .port then .cpuWrite s.cycles addr v :: s.ports else s.ports)

/-- The two stores of `Push16(v)` in order, and `SP` (00_scope.md R12): the high byte at `SP - 1`, then the low byte at `SP - 2`. -/
def PushedWord (v : Word) (s t : State) : Prop :=
  t.sp = s.sp - 2 ∧
  StoredByte (s.sp - 1) (hiByte v) s (s.memWrite (s.sp - 1) (hiByte v)) ∧
  StoredByte (s.sp - 2) (loByte v) (s.memWrite (s.sp - 1) (hiByte v)) t

/-- `v = Pop16()` (00_scope.md R12): the low byte at `SP`, then the high byte at `SP + 1`; memory as before. -/
def PoppedWord (v : Word) (s t : State) : Prop :=
  t.sp = s.sp + 2 ∧ loByte v = s.peek s.sp ∧ hiByte v = (s.noteRead s.sp).peek (s.sp + 1) ∧
  SameMemory s t ∧ t.ports = portsAfterRead (s.noteRead s.sp) (s.sp + 1)

/-- An instruction that touches no memory and neither `SP` nor `PC`: only the listed registers, `F` and `cycles` may change. -/
def RegisterOnly (rs : List Reg8) (s t : State) : Prop :=
  SameBut rs s t ∧ t.sp = s.sp ∧ t.pc = s.pc ∧ SameMemory s t ∧ t.ports = s.ports

/-- The same for an instruction that reads one byte at `addr`. -/
def ReadsOnly (addr : Word) (rs : List Reg8) (s t : State) : Prop :=
  SameBut rs s t ∧ t.sp = s.sp ∧ t.pc = s.pc ∧ SameMemory s t ∧ t.ports = portsAfterRead s addr

/-- An instruction that stores `v` at `addr`: of registers only the listed ones, `F` and `cycles` may change, of memory only what the store
does. -/
def StoresOnly (addr : Word) (v : Byte) (rs : List Reg8) (s t : State) : Prop :=
  SameBut rs s t ∧ t.sp = s.sp ∧ t.pc = s.pc ∧ StoredByte addr v s t

/-- A read of `addr`, then a store of `v` there (20_memory.md R84): of registers only the listed ones, `F` and `cycles` may change. -/
def ReadsThenStores (addr : Word) (v : Byte) (rs : List Reg8) (s t : State) : Prop :=
  SameBut rs s t ∧ t.sp = s.sp ∧ t.pc = s.pc ∧ StoredByte addr v (s.noteRead addr) t

/-- The 8-bit registers of a pair `rr`. -/
def pairRegs : Pair → List Reg8
  | .bc => [.b, .c]
  | .de => [.d, .e]
  | .hl => [.h, .l]
  | .sp => []

/-- The 8-bit registers of a stack pair `qq`; `F` is said apart. -/
def stackPairRegs : StackPair → List Reg8
  | .bc => [.b, .c]
  | .de => [.d, .e]
  | .hl => [.h, .l]
  | .af => [.a]

/-- An instruction that touches no memory, no flag and not `PC`, and writes only the pair `p`. -/
def PairOnly (p : Pair) (s t : State) : Prop :=
  SameBut (pairRegs p) s t ∧ (p ≠ .sp → t.sp = s.sp) ∧ t.f = s.f ∧ t.pc = s.pc ∧ SameMemory s t ∧ t.ports = s.ports

/-- `MBC_KIND` (00_scope.md R10). -/
def mbcKind : Mbc → Nat
  | .none => 0
  | .mbc1 _ _ _ _ => 1
  | .mbc2 _ _ => 2
  | .mbc3 _ _ _ => 3

/-! ## Arithmetic as the spec writes it, over the naturals -/

/-- Addition into `A` (40_alu_primitives.md R160). -/
def AddsTo (x : Byte) (cin : Nat) (s t : State) : Prop :=
  t.a.toNat = (s.a.toNat + x.toNat + cin) % 256 ∧
  FlagsAre t (decide ((s.a.toNat + x.toNat + cin) % 256 = 0)) false
    (decide (s.a.toNat % 16 + x.toNat % 16 + cin > 15)) (decide (s.a.toNat + x.toNat + cin > 255))

/-- The flags of a subtraction from `A` (R161): a borrow is a comparison. -/
def SubFlags (x : Byte) (cin : Nat) (s t : State) : Prop :=
  FlagsAre t (decide ((256 + s.a.toNat - x.toNat - cin) % 256 = 0)) true
    (decide (s.a.toNat % 16 < x.toNat % 16 + cin)) (decide (s.a.toNat < x.toNat + cin))

/-- Subtraction from `A` (R161). -/
def SubtractsFrom (x : Byte) (cin : Nat) (s t : State) : Prop :=
  t.a.toNat = (256 + s.a.toNat - x.toNat - cin) % 256 ∧ SubFlags x cin s t

/-- A bitwise operation on `A` (R165): bit by bit, Zero from the result, N and C cleared, H as given. -/
def BitwiseOn (fn : Bool → Bool → Bool) (x : Byte) (h : Bool) (s t : State) : Prop :=
  (∀ i < 8, t.a.getLsbD i = fn (s.a.getLsbD i) (x.getLsbD i)) ∧ FlagsAre t (decide (t.a.toNat = 0)) false h false

/-- What each ALU operation does with `A` and the operand `x` (43_alu8.md R240 to R263). -/
def AluResult (op : AluOp) (x : Byte) (s t : State) : Prop :=
  match op with
  | .add => AddsTo x 0 s t
  | .adc => AddsTo x s.flagC.toNat s t
  | .sub => SubtractsFrom x 0 s t
  | .sbc => SubtractsFrom x s.flagC.toNat s t
  | .and => BitwiseOn and x true s t
  | .xor => BitwiseOn xor x false s t
  | .or => BitwiseOn or x false s t
  | .cp => t.a = s.a ∧ SubFlags x 0 s t

/-- `daa` (40_alu_primitives.md R163): the result and Carry. -/
def daaNat (a : Nat) (n h c : Bool) : Nat × Bool :=
  if n then
    let t := if c then (a + 256 - 0x60) % 256 else a
    (if h then (t + 256 - 0x06) % 256 else t, c)
  else
    let t := if c || decide (a > 0x99) then (a + 0x60) % 256 else a
    (if h || decide (a % 16 > 0x09) then (t + 0x06) % 256 else t, c || decide (a > 0x99))

/-- `sext_16` (00_scope.md R12). -/
def sextNat (e : Byte) : Nat := if e.toNat < 128 then e.toNat else 0xFF00 + e.toNat

/-- The flags H and C of `spadd` (44_alu16.md R284). -/
def spaddFlagsNat (mode : SpaddFlags) (sp : Word) (e : Byte) : Bool × Bool :=
  match mode with
  | .wide => (decide (sp.toNat % 4096 + sextNat e % 4096 > 0x0FFF), decide (sp.toNat + sextNat e > 0xFFFF))
  | .narrow => (decide (sp.toNat % 16 + e.toNat % 16 > 0x0F), decide (sp.toNat % 256 + e.toNat > 0xFF))

/-- The shifts and rotates by number (40_alu_primitives.md R166 to R173): the result and Carry. -/
def shiftNat (k : ShiftOp) (v cin : Nat) : Nat × Bool :=
  match k with
  | .rlc => (v * 2 % 256 + v / 128, decide (v / 128 = 1))
  | .rrc => (v / 2 + v % 2 * 128, decide (v % 2 = 1))
  | .rl => (v * 2 % 256 + cin, decide (v / 128 = 1))
  | .rr => (v / 2 + cin * 128, decide (v % 2 = 1))
  | .sla => (v * 2 % 256, decide (v / 128 = 1))
  | .sra => (v / 2 + v / 128 * 128, decide (v % 2 = 1))
  | .swap => (v % 16 * 16 + v / 16, false)
  | .srl => (v / 2, decide (v % 2 = 1))

/-- Bit `b` of `v`. -/
def bitNat (b : Fin 8) (v : Nat) : Nat := v / 2 ^ b.val % 2

/-- Packed decimal: `16*(k div 10) + (k mod 10)` (95_test_vectors.md V20). -/
def bcd (k : Nat) : Byte := byteOf (16 * (k / 10) + k % 10)

end Sys2Proof.Machine
end

