-- ==== Sys2Proof/Certificates/Slice0/Obligations.lean ====
section
/-! DEFINITION. The statements for the provers, from the numbered rules of spec/. `exec i s` starts with `PC` past the instruction (log 12);
so "`PC` as otherwise" is `t.pc = s.pc`. -/

open Sys2Proof Sys2Proof.Machine

/-! ## Encoding and decoding -/

/-- Decode and encode agree (30_encoding.md R141, R142): no bit of an encoding is dropped, and nothing after the instruction is taken. -/
def Obligations.DecodeUndoesEncode : Prop :=
  ∀ (i : Instr) (rest : List Byte), i.WellFormed → decode (encode i ++ rest) = .ok (i, rest)

/-- The other direction (R145): what decode reads is exactly the encoding of what it answers. -/
def Obligations.EncodeUndoesDecode : Prop :=
  ∀ (bytes : List Byte) (i : Instr) (rest : List Byte),
    decode bytes = .ok (i, rest) → bytes = encode i ++ rest

/-- 30_encoding.md R131, its two opcode lists written out. That decoding never fails is R145, which the spec itself derives from R141 to R143. -/
def Obligations.LengthsAndTotality : Prop :=
  ∀ (b0 b1 b2 : Byte) (rest : List Byte),
    let n :=
      if b0 = 0xCB then 2
      else if b0 ∈ [0x06, 0x0E, 0x16, 0x1E, 0x26, 0x2E, 0x36, 0x3E, 0x18, 0x20, 0x28, 0x30, 0x38,
          0xC6, 0xCE, 0xD6, 0xDE, 0xE6, 0xEE, 0xF6, 0xFE, 0xE0, 0xF0, 0xE8, 0xF8] then 2
      else if b0 ∈ [0x01, 0x11, 0x21, 0x31, 0x08, 0xC2, 0xC3, 0xCA, 0xD2, 0xDA, 0xC4, 0xCC, 0xCD, 0xD4, 0xDC, 0xEA, 0xFA] then 3
      else 1
    ∃ i, decode (b0 :: b1 :: b2 :: rest) = .ok (i, (b0 :: b1 :: b2 :: rest).drop n) ∧ (encode i).length = n

/-- Words written out from the grids of R141 and R142 and the examples of the instruction rules. -/
def Obligations.SampleWordsDecode : Prop :=
  ∀ w ∈ ([([0x78], .ldAB), ([0x3E, 0x05], .ldAn 0x05), ([0x36, 0x7F], .ldAtHLn 0x7F), ([0x5E], .ldEAtHL),
      ([0x71], .ldAtHLC), ([0x76], .halt), ([0x1A], .ldAAtDE), ([0x02], .ldAtBCA), ([0xFA, 0x0F, 0xFF], .ldAAtAddr 0xFF0F),
      ([0xEA, 0x00, 0x21], .ldAtAddrA 0x2100), ([0xF0, 0x0F], .ldhAAtImm 0x0F), ([0xE2], .ldhAtCA), ([0x22], .ldAtHLIncA),
      ([0x3A], .ldAAtHLDec), ([0x21, 0x34, 0x12], .ldHLnn 0x1234), ([0x08, 0x00, 0xC1], .ldAtAddrSP 0xC100), ([0xF9], .ldSPHL),
      ([0xF8, 0xFE], .ldHLSPe 0xFE), ([0xD5], .pushDE), ([0xF1], .popAF), ([0x80], .addAB), ([0x8E], .adcAAtHL),
      ([0xD6, 0x01], .subn 0x01), ([0x9F], .sbcAA), ([0xA5], .andL), ([0xAE], .xorAtHL), ([0xF6, 0x00], .orn 0x00), ([0xB9], .cpC),
      ([0x34], .incAtHL), ([0x15], .decD), ([0x27], .daa), ([0x2F], .cpl), ([0x37], .scf), ([0x3F], .ccf), ([0x39], .addHLSP),
      ([0x13], .incDE), ([0x2B], .decHL), ([0xE8, 0xFE], .addSPe 0xFE), ([0x07], .rlca), ([0x1F], .rra), ([0xCB, 0x37], .swapA),
      ([0xCB, 0x2E], .sraAtHL), ([0xCB, 0x65], .bit4L), ([0xCB, 0x9E], .res3AtHL), ([0xCB, 0xCB], .set1E),
      ([0xC3, 0x50, 0x01], .jpnn 0x0150), ([0xD2, 0x00, 0x80], .jpNCnn 0x8000), ([0xE9], .jpHL), ([0x18, 0xFE], .jre 0xFE),
      ([0x28, 0x05], .jrZe 0x05), ([0xCD, 0x34, 0x12], .callnn 0x1234), ([0xDC, 0x00, 0x20], .callCnn 0x2000), ([0xC9], .ret),
      ([0xC0], .retNZ), ([0xD9], .reti), ([0xEF], .rst28H), ([0x00], .nop), ([0x10], .stop), ([0xF3], .di), ([0xFB], .ei),
      ([0xDD], .illegalDD), ([0xED], .illegalED)] : List (List Byte × Instr)),
    decode w.1 = .ok (w.2, [])

/-! ## The step, interrupts, halt -/

/-- The step around `exec` (60_exceptions.md R400, R402; 10_state.md R26). `PC` wraps modulo 65536. A byte fetched from a port is a CPU read of it
(20_memory.md R73, R92); the record of it is the model's choice (log 7). -/
def Obligations.StepRunsTheDecodedInstruction : Prop :=
  ∀ (s : State) (i : Instr),
    ¬ (s.ime = true ∧ s.pending ≠ 0) → (s.run = .halted → s.pending ≠ 0) →
    let u := { s with run := .running, ime := s.ime || s.imePending, imePending := false }
    let f := u.fetchBytes (opcodeLength (u.peek u.pc))
    decode f.1 = .ok (i, []) → i.WellFormed →
    step s = exec i f.2 ∧
    f.2 = { u with pc := u.pc + BitVec.ofNat 16 (encode i).length, ports := portsAfterFetch u (encode i).length } ∧
    f.1.length = (encode i).length ∧
    (∀ k < f.1.length, f.1[k]? = some (State.peek { u with ports := portsAfterFetch u k } (u.pc + BitVec.ofNat 16 k))) ∧
    (∀ k < f.1.length, u.locate (u.pc + BitVec.ofNat 16 k) ≠ .port →
      f.1[k]? = some (u.peek (u.pc + BitVec.ofNat 16 k))) ∧
    ((∀ k < f.1.length, u.locate (u.pc + BitVec.ofNat 16 k) ≠ .port) → f.2.ports = u.ports)

/-- "total and deterministic for every state except one whose next opcode is `0x10` with `STOP_BEHAVIOUR = refuse`" (R400), in every state. -/
def Obligations.StepIsTotalButForStop : Prop :=
  ∀ s : State,
    let stops := ∃ u, s.boundary = .execute u ∧ u.peek u.pc = 0x10 ∧ u.stopBehaviour = .refuse
    (stops → step s = .refused .stopUnspecified) ∧ (¬ stops → ∃ t, step s = .next t)

/-- `State.Inv` (10_state.md R23, R33; 20_memory.md R114; the invariant stated in 60_exceptions.md R402) is kept by every step. -/
def Obligations.StepKeepsInvariant : Prop :=
  ∀ s t : State, s.Inv → step s = .next t → t.Inv

/-- 00_scope.md R8: Env acts through the Bus only, and never touches the register file, `IME`, the one-shot or the run state; it may change I/O-port state.
A port read by Env is not idempotent (20_memory.md R85). The form of the record is the model's choice (logs 7, 8).
The save layer restores cartridge RAM (70_reset_and_hazards.md R452); that it does so one element at a time, as an action of Env, is the model's reading (log 25). -/
def Obligations.EnvKeepsInvariant : Prop :=
  (∀ (s : State) (acts : List EnvAct), s.Inv →
    (s.envActs acts).Inv ∧ (∀ r, (s.envActs acts).reg r = s.reg r) ∧ (s.envActs acts).f = s.f ∧
    (s.envActs acts).sp = s.sp ∧ (s.envActs acts).pc = s.pc ∧ SameInterrupts s (s.envActs acts) ∧ SameBuild s (s.envActs acts)) ∧
  (∀ (s : State) (addr : Word) (v : Byte) (k : Nat),
    let port := 0xFF00 ≤ addr.toNat ∧ addr.toNat < 0xFF80 ∧ addr.toNat ≠ 0xFF0F
    (s.envRead addr).1 = s.peek addr ∧
    s.envAct (.busRead addr) = (if port then { s with ports := .envRead s.cycles addr :: s.ports } else s) ∧
    s.envAct (.busWrite addr v) = (if port then { s with ports := .envWrite s.cycles addr v :: s.ports } else s.memWrite addr v) ∧
    s.envAct (.portChange k) = { s with ports := .envChange s.cycles k :: s.ports }) ∧
  (∀ (s : State) (i : Nat) (v : Byte),
    let t := s.envAct (.restoreCart i v)
    let isMbc2 := mbcKind s.mbc = 2
    if i < (if isMbc2 then 512 else s.ramBytes) then
      t = { s with cram := t.cram } ∧
      ∀ k j, t.readCell k j =
        if k = .cram ∧ j = i then (if isMbc2 then byteOf (v.toNat % 16) else v) else s.readCell k j
    else t = s)

/-- "The ROM image is never modified" (R64); the parameters of 10_state.md R21 are not state. -/
def Obligations.StepNeverChangesCartridge : Prop :=
  ∀ s t : State, step s = .next t → SameBuild s t ∧ mbcKind t.mbc = mbcKind s.mbc

/-- The value set of 70_reset_and_hazards.md R480, over all steps. The cycles of `STOP` are unspecified (R481): under a step function, that function says
them (log 10). -/
def Obligations.StepCyclesInValueSet : Prop :=
  ∀ s t : State, step s = .next t →
    (∃ n ∈ [4, 8, 12, 16, 20, 24], t.cycles = s.cycles + n) ∨
    (∃ u k, s.boundary = .execute u ∧ u.fetchInstr.1 = .stop ∧ u.stopBehaviour = .step k ∧
      t.cycles = s.cycles + (Config.stopStep k u.fetchInstr.2).cycles)

/-- 10_state.md R27 ("set only by consumption of `ime_pending`") and R28 ("Set by `EI` and `RETI`"), over all instructions. What `STOP` does
under a step function of `STOP_BEHAVIOUR` is open (47_cpu_control.md R353; log 10). -/
def Obligations.OnlyTheOneShotEnables : Prop :=
  ∀ s t : State, s.Inv → step s = .next t →
    (∃ u k, s.boundary = .execute u ∧ u.fetchInstr.1 = .stop ∧ u.stopBehaviour = .step k) ∨
    ((t.ime = true → s.ime = true ∨ s.imePending = true) ∧
      (t.imePending = true → ∃ u, s.boundary = .execute u ∧ (u.fetchInstr.1 = .ei ∨ u.fetchInstr.1 = .reti)))

/-- 10_state.md R29: only `HALT` sets the run state to Halted, over all instructions. What `STOP` does under a step function of `STOP_BEHAVIOUR`
is open (47_cpu_control.md R353; log 10). -/
def Obligations.OnlyHaltHalts : Prop :=
  ∀ s t : State, step s = .next t → t.run = .halted →
    (s.run = .halted ∧ s.pending = 0 ∧ t = { s with cycles := s.cycles + 4 }) ∨
    (∃ u, s.boundary = .execute u ∧ u.fetchInstr.1 = .halt) ∨
    (∃ u k, s.boundary = .execute u ∧ u.fetchInstr.1 = .stop ∧ u.stopBehaviour = .step k ∧
      (Config.stopStep k u.fetchInstr.2).run = .halted)

/-- 60_exceptions.md R404, R405, in the order of R405: the `IF` bit is cleared on the `IF` the two pushes left. -/
def Obligations.InterruptDispatch : Prop :=
  ∀ (s : State) (i : Fin 5), s.ime = true → s.pending.getLsbD i.val = true → (∀ j < i.val, s.pending.getLsbD j = false) →
    ∃ u t, PushedWord s.pc s u ∧ (∀ r, u.reg r = s.reg r) ∧ u.f = s.f ∧ SameBuild s u ∧ u.cycles = s.cycles ∧
      step s = .next t ∧
      t = { u with ime := false, imePending := false, run := .running, pc := t.pc, ifReg := t.ifReg, cycles := s.cycles + 20 } ∧
      t.pc.toNat = 0x0040 + 8 * i.val ∧
      (∀ j, t.ifReg.getLsbD j = (u.ifReg.getLsbD j && decide (j ≠ i.val)))

/-- The priority property (60_exceptions.md R415), where the pushes do not write `IF` themselves. -/
def Obligations.VBlankBeforeTimer : Prop :=
  ∀ s : State, s.ifReg = 0b00101 → s.ieReg = 0x05 → s.ime = true → s.sp - 1 ≠ 0xFF0F → s.sp - 2 ≠ 0xFF0F →
    ∃ t, step s = .next t ∧ t.pc = 0x0040 ∧ t.ifReg = 0b00100 ∧ t.ime = false ∧ t.cycles = s.cycles + 20 ∧
      ∃ u, t.boundary = .execute u

/-- 60_exceptions.md R406. -/
def Obligations.HaltedTick : Prop :=
  ∀ s : State, s.run = .halted → s.pending = 0 → step s = .next { s with cycles := s.cycles + 4 }

/-- 60_exceptions.md R401: the wake-up and what follows are one step. -/
def Obligations.PendingRequestWakes : Prop :=
  ∀ s : State, s.run = .halted → s.pending ≠ 0 →
    (s.ime = false → step s = step { s with run := .running } ∧
      ∃ u, s.boundary = .execute u ∧ u.run = .running ∧ u.pc = s.pc ∧ u.cycles = s.cycles) ∧
    (s.ime = true → ∃ t, step s = .next t ∧ t.run = .running ∧ t.ime = false ∧ t.cycles = s.cycles + 20 ∧
      t.pc ∈ [0x0040, 0x0048, 0x0050, 0x0058, 0x0060])

/-- 47_cpu_control.md R354 and 60_exceptions.md R402. -/
def Obligations.EiDelaysOneInstruction : Prop :=
  ∀ s : State, s.run = .running → s.ime = false → s.imePending = false → s.peek s.pc = 0xFB →
    ∃ t, step s = .next t ∧ t.ime = false ∧ t.imePending = true ∧ t.pc = s.pc + 1 ∧ t.cycles = s.cycles + 4 ∧
      step t = exec { t with ime := true, imePending := false }.fetchInstr.1
        { t with ime := true, imePending := false }.fetchInstr.2

/-- The EI/DI atomicity property (60_exceptions.md R414). -/
def Obligations.EiDiAtomic : Prop :=
  ∀ s t : State, s.run = .running → s.ime = false → s.imePending = false → s.peek s.pc = 0xFB →
    step s = .next t → t.peek t.pc = 0xF3 →
    ∃ u, step t = .next u ∧ u.ime = false ∧ u.imePending = false ∧ u.pc = s.pc + 2 ∧ u.sp = s.sp ∧ u.ifReg = s.ifReg ∧
      u.cycles = s.cycles + 8 ∧ ∃ v, u.boundary = .execute v

/-! ## Loading and reset -/

/-- 20_memory.md R98 and R100 to R103, 70_reset_and_hazards.md R460: when `load` succeeds and what it builds. That an MBC2 image loads with any RAM code,
also one outside the table, and that `RAM_BYTES` is then 512 is the model's reading (log 22, DEDUCED). -/
def Obligations.LoadContract : Prop :=
  ∀ image : List Byte,
    let kind := (image.getD 0x147 0).toNat
    let romCode := (image.getD 0x148 0).toNat
    let ramCode := (image.getD 0x149 0).toNat
    let loads := 0x14A ≤ image.length ∧ kind ∈ [0x00, 0x08, 0x09, 0x01, 0x02, 0x03, 0x05, 0x06, 0x0F, 0x10, 0x11, 0x12, 0x13] ∧
      romCode ≤ 8 ∧ image.length = 16384 * 2 ^ (romCode + 1) ∧ (kind ∈ [0x05, 0x06] ∨ ramCode ≤ 5)
    (¬ loads → ∃ f, load image = .error f) ∧
    (loads → ∃ s, load image = .ok s ∧
      s.mbc = (if kind ∈ [0x00, 0x08, 0x09] then .none else if kind ∈ [0x01, 0x02, 0x03] then .mbc1 false 0 0 false
        else if kind ∈ [0x05, 0x06] then .mbc2 false 0 else .mbc3 false 0 0) ∧
      s.romBanks = 2 ^ (romCode + 1) ∧
      s.ramBytes = (if kind ∈ [0x05, 0x06] then 512 else [0, 2048, 8192, 32768, 131072, 65536].getD ramCode 0) ∧
      ∀ i < image.length, s.readCell .rom i = image.getD i 0)

/-- 70_reset_and_hazards.md R450. The values of `A F B C D E H L SP` are the parameter `RESET_REGS`, here the model's choice (log 2). -/
def Obligations.ResetState : Prop :=
  ∀ s : State, s = State.reset ∨ (∃ image, load image = .ok s) →
    s.pc = 0x0100 ∧ s.ime = false ∧ s.imePending = false ∧ s.run = .running ∧ s.ifReg = 0 ∧ s.ieReg = 0 ∧ s.cycles = 0 ∧
    (∀ k, k ≠ .rom → s.array k = []) ∧ s.peek 0xFF0F = 0xE0 ∧
    (s.a = Config.resetRegs.a ∧ s.b = Config.resetRegs.b ∧ s.c = Config.resetRegs.c ∧ s.d = Config.resetRegs.d ∧
      s.e = Config.resetRegs.e ∧ s.h = Config.resetRegs.h ∧ s.l = Config.resetRegs.l ∧ s.sp = Config.resetRegs.sp) ∧
    s.f.toNat = Config.resetRegs.f.toNat / 16 * 16 ∧ s.spaddFlags = .wide ∧ s.stopBehaviour = .refuse

/-- The base of `Obligations.StepKeepsInvariant`. -/
def Obligations.ResetMeetsInvariant : Prop :=
  State.reset.Inv ∧ ∀ (image : List Byte) (s : State), load image = .ok s → s.Inv

/-! ## The Bus and the bank controllers -/

/-- 20_memory.md R61, R65, R67, R69, R72 to R76. The value of the unusable range is free (log 6). That `io_read` is a function of the recorded port
events, the cycle count and the address, and that `io_write` is an entry of the record, is the model's choice (log 7). -/
def Obligations.BusByRange : Prop :=
  ∀ (s : State) (addr : Word) (v : Byte),
    let n := addr.toNat
    let holds := fun k i => s.peek addr = s.readCell k i ∧ s.memWrite addr v = s.writeCell k i v
    (0x8000 ≤ n → n < 0xA000 → holds .vram (n - 0x8000)) ∧
    (0xC000 ≤ n → n < 0xD000 → holds .wram0 (n - 0xC000)) ∧
    (0xD000 ≤ n → n < 0xE000 → holds .wram1 (n - 0xD000)) ∧
    (0xFE00 ≤ n → n < 0xFEA0 → holds .oam (n - 0xFE00)) ∧
    (0xFEA0 ≤ n → n < 0xFF00 → s.peek addr = Config.unusableRead ∧ s.memWrite addr v = s) ∧
    (0xFF00 ≤ n → n < 0xFF80 → n ≠ 0xFF0F → s.peek addr = Config.portRead s.ports s.cycles addr ∧
      s.memWrite addr v = { s with ports := .cpuWrite s.cycles addr v :: s.ports }) ∧
    (n = 0xFF0F → (s.peek addr).toNat = 0xE0 + s.ifReg.toNat ∧ s.memWrite addr v = { s with ifReg := BitVec.ofNat 5 v.toNat }) ∧
    (0xFF80 ≤ n → n < 0xFFFF → holds .hram (n - 0xFF80)) ∧
    (n = 0xFFFF → s.peek addr = s.ieReg ∧ s.memWrite addr v = { s with ieReg := v }) ∧
    (s.memRead addr).1 = s.peek addr ∧
    (s.memRead addr).2 = (if 0xFF00 ≤ n ∧ n < 0xFF80 ∧ n ≠ 0xFF0F then { s with ports := .cpuRead s.cycles addr :: s.ports } else s)

/-- 20_memory.md R68. -/
def Obligations.EchoAliasesWorkRam : Prop :=
  ∀ (s : State) (addr : Word) (v : Byte), 0xE000 ≤ addr.toNat → addr.toNat < 0xFE00 →
    s.peek addr = s.peek (addr - 0x2000) ∧ s.memWrite addr v = s.memWrite (addr - 0x2000) v ∧
    (s.memWrite addr v).peek (addr - 0x2000) = v ∧ (s.memWrite (addr - 0x2000) v).peek addr = v

/-- The round-trip property (20_memory.md R77). -/
def Obligations.BusRoundTrip : Prop :=
  ∀ (s : State) (addr : Word) (v : Byte),
    let n := addr.toNat
    let cart := match s.mbc with
      | .none => 0 < s.ramBytes
      | .mbc1 en _ _ _ => en = true ∧ 0 < s.ramBytes
      | .mbc2 _ _ => False
      | .mbc3 en _ sel => en = true ∧ (sel.toNat ≤ 3 ∧ 0 < s.ramBytes ∨ 8 ≤ sel.toNat ∧ sel.toNat ≤ 12)
    (0x8000 ≤ n ∧ n < 0xA000) ∨ (0xA000 ≤ n ∧ n < 0xC000 ∧ cart) ∨ (0xC000 ≤ n ∧ n < 0xFEA0) ∨ 0xFF80 ≤ n →
    (s.memWrite addr v).peek addr = v

/-- 20_memory.md R106. -/
def Obligations.NoneController : Prop :=
  ∀ (s : State) (addr : Word) (v : Byte), s.mbc = .none →
    let n := addr.toNat
    (n < 0x8000 → s.peek addr = s.readCell .rom (n % (16384 * s.romBanks)) ∧ s.memWrite addr v = s) ∧
    (0xA000 ≤ n → n < 0xC000 →
      if s.ramBytes = 0 then s.peek addr = 0xFF ∧ s.memWrite addr v = s
      else s.peek addr = s.readCell .cram ((n - 0xA000) % s.ramBytes) ∧
        s.memWrite addr v = s.writeCell .cram ((n - 0xA000) % s.ramBytes) v)

/-- 20_memory.md R107, R108, R110. -/
def Obligations.Mbc1Controller : Prop :=
  ∀ (s : State) (en : Bool) (lo : BitVec 5) (hi : BitVec 2) (mode : Bool) (addr : Word) (v : Byte), s.mbc = .mbc1 en lo hi mode →
    let n := addr.toNat
    (n < 0x2000 → s.memWrite addr v = { s with mbc := .mbc1 (decide (v.toNat % 16 = 0xA)) lo hi mode }) ∧
    (0x2000 ≤ n → n < 0x4000 → s.memWrite addr v = { s with mbc := .mbc1 en (BitVec.ofNat 5 v.toNat) hi mode }) ∧
    (0x4000 ≤ n → n < 0x6000 → s.memWrite addr v = { s with mbc := .mbc1 en lo (BitVec.ofNat 2 v.toNat) mode }) ∧
    (0x6000 ≤ n → n < 0x8000 → s.memWrite addr v = { s with mbc := .mbc1 en lo hi (decide (v.toNat % 2 = 1)) }) ∧
    (n < 0x4000 → s.peek addr = s.readCell .rom n) ∧
    (0x4000 ≤ n → n < 0x8000 →
      let bank := (32 * (if mode then 0 else hi.toNat) + (if lo.toNat = 0 then 1 else lo.toNat)) % s.romBanks
      s.peek addr = s.readCell .rom (16384 * bank + (n - 0x4000))) ∧
    (0xA000 ≤ n → n < 0xC000 →
      if en = true ∧ s.ramBytes > 0 then
        let off := (8192 * (if mode then hi.toNat else 0) + (n - 0xA000)) % s.ramBytes
        s.peek addr = s.readCell .cram off ∧ s.memWrite addr v = s.writeCell .cram off v
      else s.peek addr = 0xFF ∧ s.memWrite addr v = s)

/-- 20_memory.md R113, R114. -/
def Obligations.Mbc2Controller : Prop :=
  ∀ (s : State) (en : Bool) (bank : BitVec 4) (addr : Word) (v : Byte), s.mbc = .mbc2 en bank →
    let n := addr.toNat
    (n < 0x4000 → n / 256 % 2 = 0 → s.memWrite addr v = { s with mbc := .mbc2 (decide (v.toNat % 16 = 0xA)) bank }) ∧
    (n < 0x4000 → n / 256 % 2 = 1 → s.memWrite addr v = { s with mbc := .mbc2 en (BitVec.ofNat 4 v.toNat) }) ∧
    (0x4000 ≤ n → n < 0x8000 → s.memWrite addr v = s) ∧
    (n < 0x4000 → s.peek addr = s.readCell .rom n) ∧
    (0x4000 ≤ n → n < 0x8000 → s.peek addr =
      s.readCell .rom (16384 * ((if bank.toNat = 0 then 1 else bank.toNat) % s.romBanks) + (n - 0x4000))) ∧
    (0xA000 ≤ n → n < 0xC000 →
      let i := (n - 0xA000) % 512
      if en = true then
        s.peek addr = 0xF0 ||| s.readCell .cram i ∧ s.memWrite addr v = s.writeCell .cram i (BitVec.ofNat 8 (v.toNat % 16))
      else s.peek addr = 0xFF ∧ s.memWrite addr v = s)

/-- 20_memory.md R116, R117, R118. -/
def Obligations.Mbc3Controller : Prop :=
  ∀ (s : State) (en : Bool) (bank : BitVec 7) (sel : BitVec 4) (addr : Word) (v : Byte), s.mbc = .mbc3 en bank sel →
    let n := addr.toNat
    (n < 0x2000 → s.memWrite addr v = { s with mbc := .mbc3 (decide (v.toNat % 16 = 0xA)) bank sel }) ∧
    (0x2000 ≤ n → n < 0x4000 → s.memWrite addr v = { s with mbc := .mbc3 en (BitVec.ofNat 7 v.toNat) sel }) ∧
    (0x4000 ≤ n → n < 0x6000 → s.memWrite addr v = { s with mbc := .mbc3 en bank (BitVec.ofNat 4 v.toNat) }) ∧
    (0x6000 ≤ n → n < 0x8000 → s.memWrite addr v = s) ∧
    (n < 0x4000 → s.peek addr = s.readCell .rom n) ∧
    (0x4000 ≤ n → n < 0x8000 → s.peek addr =
      s.readCell .rom (16384 * ((if bank.toNat = 0 then 1 else bank.toNat) % s.romBanks) + (n - 0x4000))) ∧
    (0xA000 ≤ n → n < 0xC000 →
      if en = true ∧ sel.toNat ≤ 3 ∧ s.ramBytes > 0 then
        let off := (8192 * sel.toNat + (n - 0xA000)) % s.ramBytes
        s.peek addr = s.readCell .cram off ∧ s.memWrite addr v = s.writeCell .cram off v
      else if en = true ∧ 0x8 ≤ sel.toNat ∧ sel.toNat ≤ 0xC then
        s.peek addr = s.readCell .rtc (sel.toNat - 8) ∧ s.memWrite addr v = s.writeCell .rtc (sel.toNat - 8) v
      else s.peek addr = 0xFF ∧ s.memWrite addr v = s)

/-! ## 8-bit loads -/

/-- 41_load8.md R200, R201, R202. -/
def Obligations.LoadRegister : Prop :=
  ∀ (x : Reg8) (s : State),
    (∀ y, encode (mkLd x y) = [byteOf (0x40 + 8 * regCode x + regCode y)] ∧
      ∃ t, exec (mkLd x y) s = .next t ∧ t.reg x = s.reg y ∧ t.f = s.f ∧ t.cycles = s.cycles + 4 ∧ RegisterOnly [x] s t) ∧
    (∀ n, encode (mkLdImm x n) = [byteOf (8 * regCode x + 6), n] ∧
      ∃ t, exec (mkLdImm x n) s = .next t ∧ t.reg x = n ∧ t.f = s.f ∧ t.cycles = s.cycles + 8 ∧ RegisterOnly [x] s t) ∧
    (encode (mkLdFromHL x) = [byteOf (0x40 + 8 * regCode x + 6)] ∧
      ∃ t, exec (mkLdFromHL x) s = .next t ∧ t.reg x = s.peek s.hl ∧ t.f = s.f ∧ t.cycles = s.cycles + 8 ∧
        ReadsOnly s.hl [x] s t)

/-- 41_load8.md R205, R206, R209, R211, R213. -/
def Obligations.LoadA : Prop :=
  ∀ s : State,
    let loads := fun (i : Instr) (addr : Word) (k : Nat) =>
      ∃ t, exec i s = .next t ∧ t.a = s.peek addr ∧ t.f = s.f ∧ t.cycles = s.cycles + k ∧ ReadsOnly addr [.a] s t
    (encode .ldAAtBC = [0x0A] ∧ loads .ldAAtBC s.bc 8) ∧
    (encode .ldAAtDE = [0x1A] ∧ loads .ldAAtDE s.de 8) ∧
    (∀ nn, encode (.ldAAtAddr nn) = [0xFA, loByte nn, hiByte nn] ∧ loads (.ldAAtAddr nn) nn 16) ∧
    (encode .ldhAAtC = [0xF2] ∧ loads .ldhAAtC (BitVec.ofNat 16 (0xFF00 + s.c.toNat)) 8) ∧
    (∀ n, encode (.ldhAAtImm n) = [0xF0, n] ∧ loads (.ldhAAtImm n) (BitVec.ofNat 16 (0xFF00 + n.toNat)) 12)

/-- 41_load8.md R203, R204, R207, R208, R210, R212, R214. -/
def Obligations.StoreByte : Prop :=
  ∀ s : State,
    let stores := fun (i : Instr) (addr : Word) (v : Byte) (k : Nat) =>
      ∃ t, exec i s = .next t ∧ t.f = s.f ∧ t.cycles = s.cycles + k ∧ StoresOnly addr v [] s t
    (∀ x, encode (mkLdToHL x) = [byteOf (0x70 + regCode x)] ∧ stores (mkLdToHL x) s.hl (s.reg x) 8) ∧
    (∀ n, encode (.ldAtHLn n) = [0x36, n] ∧ stores (.ldAtHLn n) s.hl n 12) ∧
    (encode .ldAtBCA = [0x02] ∧ stores .ldAtBCA s.bc s.a 8) ∧
    (encode .ldAtDEA = [0x12] ∧ stores .ldAtDEA s.de s.a 8) ∧
    (∀ nn, encode (.ldAtAddrA nn) = [0xEA, loByte nn, hiByte nn] ∧ stores (.ldAtAddrA nn) nn s.a 16) ∧
    (encode .ldhAtCA = [0xE2] ∧ stores .ldhAtCA (BitVec.ofNat 16 (0xFF00 + s.c.toNat)) s.a 8) ∧
    (∀ n, encode (.ldhAtImmA n) = [0xE0, n] ∧ stores (.ldhAtImmA n) (BitVec.ofNat 16 (0xFF00 + n.toNat)) s.a 12)

/-- 41_load8.md R215 to R218. -/
def Obligations.LoadStoreStep : Prop :=
  ∀ s : State,
    let stores := fun (i : Instr) (d : Nat) =>
      ∃ t, exec i s = .next t ∧ t.hl.toNat = (s.hl.toNat + d) % 65536 ∧ t.f = s.f ∧ t.cycles = s.cycles + 8 ∧
        StoresOnly s.hl s.a [.h, .l] s t
    let loads := fun (i : Instr) (d : Nat) =>
      ∃ t, exec i s = .next t ∧ t.a = s.peek s.hl ∧ t.hl.toNat = (s.hl.toNat + d) % 65536 ∧ t.f = s.f ∧
        t.cycles = s.cycles + 8 ∧ ReadsOnly s.hl [.a, .h, .l] s t
    (encode .ldAtHLIncA = [0x22] ∧ stores .ldAtHLIncA 1) ∧ (encode .ldAAtHLInc = [0x2A] ∧ loads .ldAAtHLInc 1) ∧
    (encode .ldAtHLDecA = [0x32] ∧ stores .ldAtHLDecA 65535) ∧ (encode .ldAAtHLDec = [0x3A] ∧ loads .ldAAtHLDec 65535)

/-! ## 16-bit loads and the stack -/

/-- 42_load16_stack.md R230, R232. -/
def Obligations.LoadPair : Prop :=
  ∀ s : State,
    (∀ p nn, encode (mkLdPair p nn) = [byteOf (16 * pairCode p + 1), loByte nn, hiByte nn] ∧
      ∃ t, exec (mkLdPair p nn) s = .next t ∧ t.pair p = nn ∧ t.cycles = s.cycles + 12 ∧ PairOnly p s t) ∧
    (encode .ldSPHL = [0xF9] ∧
      ∃ t, exec .ldSPHL s = .next t ∧ t.sp = s.hl ∧ t.cycles = s.cycles + 8 ∧ PairOnly .sp s t)

/-- 42_load16_stack.md R231. -/
def Obligations.StoreSP : Prop :=
  ∀ (s : State) (nn : Word), encode (.ldAtAddrSP nn) = [0x08, loByte nn, hiByte nn] ∧
    ∃ t, exec (.ldAtAddrSP nn) s = .next t ∧ t.f = s.f ∧ t.cycles = s.cycles + 20 ∧ SameBut [] s t ∧ t.sp = s.sp ∧ t.pc = s.pc ∧
      StoredByte nn (loByte s.sp) s (s.memWrite nn (loByte s.sp)) ∧
      StoredByte (nn + 1) (hiByte s.sp) (s.memWrite nn (loByte s.sp)) t

/-- 42_load16_stack.md R233, 44_alu16.md R283, R284. -/
def Obligations.SpPlusDisplacement : Prop :=
  ∀ (s : State) (e : Byte),
    let res := (s.sp.toNat + sextNat e) % 65536
    let fl := spaddFlagsNat s.spaddFlags s.sp e
    (encode (.ldHLSPe e) = [0xF8, e] ∧ ∃ t, exec (.ldHLSPe e) s = .next t ∧ t.hl.toNat = res ∧
      FlagsAre t false false fl.1 fl.2 ∧ t.cycles = s.cycles + 12 ∧ RegisterOnly [.h, .l] s t) ∧
    (encode (.addSPe e) = [0xE8, e] ∧ ∃ t, exec (.addSPe e) s = .next t ∧ t.sp.toNat = res ∧
      FlagsAre t false false fl.1 fl.2 ∧ t.cycles = s.cycles + 16 ∧ SameBut [] s t ∧ t.pc = s.pc ∧ SameMemory s t ∧
      t.ports = s.ports)

/-- 42_load16_stack.md R234. -/
def Obligations.PushStoresThePair : Prop :=
  ∀ (q : StackPair) (s : State), encode (mkPush q) = [byteOf (0xC5 + 16 * stackPairCode q)] ∧
    ∃ t, exec (mkPush q) s = .next t ∧ PushedWord (s.stackPair q) s t ∧ t.f = s.f ∧ t.pc = s.pc ∧ SameBut [] s t ∧
      t.cycles = s.cycles + 16

/-- 42_load16_stack.md R235. -/
def Obligations.PopLoadsThePair : Prop :=
  ∀ (q : StackPair) (s : State), encode (mkPop q) = [byteOf (0xC1 + 16 * stackPairCode q)] ∧
    ∃ t v, exec (mkPop q) s = .next t ∧ PoppedWord v s t ∧
      (q ≠ .af → t.stackPair q = v ∧ t.f = s.f) ∧
      (q = .af → t.a = hiByte v ∧ t.f.toNat = (loByte v).toNat / 16 * 16 ∧
        FlagsAre t ((loByte v).getLsbD 7) ((loByte v).getLsbD 6) ((loByte v).getLsbD 5) ((loByte v).getLsbD 4)) ∧
      t.pc = s.pc ∧ SameBut (stackPairRegs q) s t ∧ t.cycles = s.cycles + 12

/-- "`PUSH AF; POP AF` is the identity" (R235), for every pair, on a stack that is memory. -/
def Obligations.PushThenPop : Prop :=
  ∀ (q : StackPair) (s : State) (j k : ArrayId) (m n : Nat), s.f &&& 0x0F = 0 →
    s.locate (s.sp - 1) = .cell j m → s.locate (s.sp - 2) = .cell k n → (j, m) ≠ (k, n) →
    ∃ t u, exec (mkPush q) s = .next t ∧ exec (mkPop q) t = .next u ∧ u.stackPair q = s.stackPair q ∧ u.f = s.f ∧ u.sp = s.sp ∧
      ∀ r, u.reg r = s.reg r

/-! ## 8-bit arithmetic and logic -/

/-- 43_alu8.md R240 to R245, with `add8` of 40_alu_primitives.md R160. -/
def Obligations.AddAdc : Prop :=
  ∀ (op : AluOp) (s : State), op ∈ [AluOp.add, .adc] →
    (∀ x, encode (mkAlu op x) = [byteOf (0x80 + 8 * aluCode op + regCode x)] ∧
      ∃ t, exec (mkAlu op x) s = .next t ∧ AluResult op (s.reg x) s t ∧ t.cycles = s.cycles + 4 ∧ RegisterOnly [.a] s t) ∧
    (encode (mkAluHL op) = [byteOf (0x86 + 8 * aluCode op)] ∧
      ∃ t, exec (mkAluHL op) s = .next t ∧ AluResult op (s.peek s.hl) s t ∧ t.cycles = s.cycles + 8 ∧ ReadsOnly s.hl [.a] s t) ∧
    (∀ n, encode (mkAluImm op n) = [byteOf (0xC6 + 8 * aluCode op), n] ∧
      ∃ t, exec (mkAluImm op n) s = .next t ∧ AluResult op n s t ∧ t.cycles = s.cycles + 8 ∧ RegisterOnly [.a] s t)

/-- 43_alu8.md R246 to R251, R261 to R263, with `sub8` of 40_alu_primitives.md R161. -/
def Obligations.SubSbcCp : Prop :=
  ∀ (op : AluOp) (s : State), op ∈ [AluOp.sub, .sbc, .cp] →
    (∀ x, encode (mkAlu op x) = [byteOf (0x80 + 8 * aluCode op + regCode x)] ∧
      ∃ t, exec (mkAlu op x) s = .next t ∧ AluResult op (s.reg x) s t ∧ t.cycles = s.cycles + 4 ∧ RegisterOnly [.a] s t) ∧
    (encode (mkAluHL op) = [byteOf (0x86 + 8 * aluCode op)] ∧
      ∃ t, exec (mkAluHL op) s = .next t ∧ AluResult op (s.peek s.hl) s t ∧ t.cycles = s.cycles + 8 ∧ ReadsOnly s.hl [.a] s t) ∧
    (∀ n, encode (mkAluImm op n) = [byteOf (0xC6 + 8 * aluCode op), n] ∧
      ∃ t, exec (mkAluImm op n) s = .next t ∧ AluResult op n s t ∧ t.cycles = s.cycles + 8 ∧ RegisterOnly [.a] s t)

/-- 43_alu8.md R252 to R260. -/
def Obligations.AndXorOr : Prop :=
  ∀ (op : AluOp) (s : State), op ∈ [AluOp.and, .xor, .or] →
    (∀ x, encode (mkAlu op x) = [byteOf (0x80 + 8 * aluCode op + regCode x)] ∧
      ∃ t, exec (mkAlu op x) s = .next t ∧ AluResult op (s.reg x) s t ∧ t.cycles = s.cycles + 4 ∧ RegisterOnly [.a] s t) ∧
    (encode (mkAluHL op) = [byteOf (0x86 + 8 * aluCode op)] ∧
      ∃ t, exec (mkAluHL op) s = .next t ∧ AluResult op (s.peek s.hl) s t ∧ t.cycles = s.cycles + 8 ∧ ReadsOnly s.hl [.a] s t) ∧
    (∀ n, encode (mkAluImm op n) = [byteOf (0xC6 + 8 * aluCode op), n] ∧
      ∃ t, exec (mkAluImm op n) s = .next t ∧ AluResult op n s t ∧ t.cycles = s.cycles + 8 ∧ RegisterOnly [.a] s t)

/-- 43_alu8.md R264, R266. -/
def Obligations.IncDecRegister : Prop :=
  ∀ (x : Reg8) (s : State),
    (encode (mkInc x) = [byteOf (8 * regCode x + 4)] ∧
      ∃ t, exec (mkInc x) s = .next t ∧ (t.reg x).toNat = ((s.reg x).toNat + 1) % 256 ∧
        FlagsAre t (decide ((s.reg x).toNat = 0xFF)) false (decide ((s.reg x).toNat % 16 = 0x0F)) s.flagC ∧
        t.cycles = s.cycles + 4 ∧ RegisterOnly [x] s t) ∧
    (encode (mkDec x) = [byteOf (8 * regCode x + 5)] ∧
      ∃ t, exec (mkDec x) s = .next t ∧ (t.reg x).toNat = ((s.reg x).toNat + 255) % 256 ∧
        FlagsAre t (decide ((s.reg x).toNat = 1)) true (decide ((s.reg x).toNat % 16 = 0)) s.flagC ∧
        t.cycles = s.cycles + 4 ∧ RegisterOnly [x] s t)

/-- 43_alu8.md R265, R267: the flags come from the value read, also where the write is discarded. -/
def Obligations.IncDecAtHL : Prop :=
  ∀ s : State,
    let v := s.peek s.hl
    (encode .incAtHL = [0x34] ∧
      ∃ t, exec .incAtHL s = .next t ∧ ReadsThenStores s.hl (byteOf (v.toNat + 1)) [] s t ∧
        FlagsAre t (decide (v.toNat = 0xFF)) false (decide (v.toNat % 16 = 0x0F)) s.flagC ∧ t.cycles = s.cycles + 12) ∧
    (encode .decAtHL = [0x35] ∧
      ∃ t, exec .decAtHL s = .next t ∧ ReadsThenStores s.hl (byteOf (v.toNat + 255)) [] s t ∧
        FlagsAre t (decide (v.toNat = 1)) true (decide (v.toNat % 16 = 0)) s.flagC ∧ t.cycles = s.cycles + 12)

/-- 43_alu8.md R268, 40_alu_primitives.md R163. -/
def Obligations.DecimalAdjust : Prop :=
  ∀ s : State,
    let r := daaNat s.a.toNat s.flagN s.flagH s.flagC
    encode .daa = [0x27] ∧
    ∃ t, exec .daa s = .next t ∧ t.a.toNat = r.1 ∧ FlagsAre t (decide (r.1 = 0)) s.flagN false r.2 ∧
      t.cycles = s.cycles + 4 ∧ RegisterOnly [.a] s t

/-- The DAA property (95_test_vectors.md V20), of the instructions `ADD A,n`, `ADC A,n`, `SUB n`, `SBC A,n` and `DAA`. -/
def Obligations.DaaIsDecimal : Prop :=
  ∀ (s : State) (x y : Fin 100), s.a = bcd x.val →
    let c := s.flagC.toNat
    let sumThenDaa := fun (i : Instr) (k : Nat) => ∃ t u, exec i s = .next t ∧ exec .daa t = .next u ∧
      u.a = bcd ((x.val + y.val + k) % 100) ∧ u.flagC = decide (x.val + y.val + k ≥ 100) ∧
      u.flagZ = decide ((x.val + y.val + k) % 100 = 0)
    let differenceThenDaa := fun (i : Instr) (k : Nat) => ∃ t u, exec i s = .next t ∧ exec .daa t = .next u ∧
      u.a = bcd ((x.val + 200 - y.val - k) % 100) ∧ u.flagC = decide (x.val < y.val + k) ∧
      u.flagZ = decide ((x.val + 200 - y.val - k) % 100 = 0)
    sumThenDaa (.addAn (bcd y.val)) 0 ∧ sumThenDaa (.adcAn (bcd y.val)) c ∧
    differenceThenDaa (.subn (bcd y.val)) 0 ∧ differenceThenDaa (.sbcAn (bcd y.val)) c

/-- 43_alu8.md R269, R270, R271. -/
def Obligations.CplScfCcf : Prop :=
  ∀ s : State,
    (encode .cpl = [0x2F] ∧ ∃ t, exec .cpl s = .next t ∧ t.a.toNat = 255 - s.a.toNat ∧ FlagsAre t s.flagZ true true s.flagC ∧
      t.cycles = s.cycles + 4 ∧ RegisterOnly [.a] s t) ∧
    (encode .scf = [0x37] ∧ ∃ t, exec .scf s = .next t ∧ FlagsAre t s.flagZ false false true ∧
      t.cycles = s.cycles + 4 ∧ RegisterOnly [] s t) ∧
    (encode .ccf = [0x3F] ∧ ∃ t, exec .ccf s = .next t ∧ FlagsAre t s.flagZ false false (!s.flagC) ∧
      t.cycles = s.cycles + 4 ∧ RegisterOnly [] s t)

/-! ## 16-bit arithmetic -/

/-- 44_alu16.md R280, with `add16` of 40_alu_primitives.md R162. -/
def Obligations.AddHLPair : Prop :=
  ∀ (p : Pair) (s : State),
    let x := s.hl.toNat
    let y := (s.pair p).toNat
    encode (mkAddHL p) = [byteOf (16 * pairCode p + 9)] ∧
    ∃ t, exec (mkAddHL p) s = .next t ∧ t.hl.toNat = (x + y) % 65536 ∧
      FlagsAre t s.flagZ false (decide (x % 4096 + y % 4096 > 0x0FFF)) (decide (x + y > 0xFFFF)) ∧
      t.cycles = s.cycles + 8 ∧ RegisterOnly [.h, .l] s t

/-- 44_alu16.md R281, R282. -/
def Obligations.IncDecPair : Prop :=
  ∀ (p : Pair) (s : State),
    (encode (mkIncPair p) = [byteOf (16 * pairCode p + 3)] ∧
      ∃ t, exec (mkIncPair p) s = .next t ∧ (t.pair p).toNat = ((s.pair p).toNat + 1) % 65536 ∧
        t.cycles = s.cycles + 8 ∧ PairOnly p s t) ∧
    (encode (mkDecPair p) = [byteOf (16 * pairCode p + 11)] ∧
      ∃ t, exec (mkDecPair p) s = .next t ∧ (t.pair p).toNat = ((s.pair p).toNat + 65535) % 65536 ∧
        t.cycles = s.cycles + 8 ∧ PairOnly p s t)

/-! ## Rotates, shifts and bits -/

/-- 45_rotate_shift_bit.md R290 to R293. -/
def Obligations.RotateA : Prop :=
  ∀ s : State,
    let rotates := fun (i : Instr) (k : ShiftOp) =>
      ∃ t, exec i s = .next t ∧ t.a.toNat = (shiftNat k s.a.toNat s.flagC.toNat).1 ∧
        FlagsAre t false false false (shiftNat k s.a.toNat s.flagC.toNat).2 ∧ t.cycles = s.cycles + 4 ∧ RegisterOnly [.a] s t
    (encode .rlca = [0x07] ∧ rotates .rlca .rlc) ∧ (encode .rrca = [0x0F] ∧ rotates .rrca .rrc) ∧
    (encode .rla = [0x17] ∧ rotates .rla .rl) ∧ (encode .rra = [0x1F] ∧ rotates .rra .rr)

/-- 45_rotate_shift_bit.md R300, R302, ..., R314, with the functions of 40_alu_primitives.md R166 to R173. -/
def Obligations.ShiftRegister : Prop :=
  ∀ (k : ShiftOp) (x : Reg8) (s : State),
    let r := shiftNat k (s.reg x).toNat s.flagC.toNat
    encode (mkShift k x) = [0xCB, byteOf (8 * shiftCode k + regCode x)] ∧
    ∃ t, exec (mkShift k x) s = .next t ∧ (t.reg x).toNat = r.1 ∧ FlagsAre t (decide (r.1 = 0)) false false r.2 ∧
      t.cycles = s.cycles + 8 ∧ RegisterOnly [x] s t

/-- 45_rotate_shift_bit.md R301, R303, ..., R315: the flags come from the value read, also where the write is discarded. -/
def Obligations.ShiftAtHL : Prop :=
  ∀ (k : ShiftOp) (s : State),
    let r := shiftNat k (s.peek s.hl).toNat s.flagC.toNat
    encode (mkShiftHL k) = [0xCB, byteOf (8 * shiftCode k + 6)] ∧
    ∃ t, exec (mkShiftHL k) s = .next t ∧ ReadsThenStores s.hl (byteOf r.1) [] s t ∧
      FlagsAre t (decide (r.1 = 0)) false false r.2 ∧ t.cycles = s.cycles + 16

/-- 45_rotate_shift_bit.md R316, R317. -/
def Obligations.TestBit : Prop :=
  ∀ (b : Fin 8) (s : State),
    (∀ x, encode (mkBit b x) = [0xCB, byteOf (0x40 + 8 * b.val + regCode x)] ∧
      ∃ t, exec (mkBit b x) s = .next t ∧ FlagsAre t (decide (bitNat b (s.reg x).toNat = 0)) false true s.flagC ∧
        t.cycles = s.cycles + 8 ∧ RegisterOnly [] s t) ∧
    (encode (mkBitHL b) = [0xCB, byteOf (0x46 + 8 * b.val)] ∧
      ∃ t, exec (mkBitHL b) s = .next t ∧ FlagsAre t (decide (bitNat b (s.peek s.hl).toNat = 0)) false true s.flagC ∧
        t.cycles = s.cycles + 12 ∧ ReadsOnly s.hl [] s t)

/-- 45_rotate_shift_bit.md R318, R320. -/
def Obligations.ResSetRegister : Prop :=
  ∀ (b : Fin 8) (x : Reg8) (s : State),
    (encode (mkRes b x) = [0xCB, byteOf (0x80 + 8 * b.val + regCode x)] ∧
      ∃ t, exec (mkRes b x) s = .next t ∧
        (∀ i < 8, (t.reg x).getLsbD i = ((s.reg x).getLsbD i && decide (i ≠ b.val))) ∧ t.f = s.f ∧
        t.cycles = s.cycles + 8 ∧ RegisterOnly [x] s t) ∧
    (encode (mkSet b x) = [0xCB, byteOf (0xC0 + 8 * b.val + regCode x)] ∧
      ∃ t, exec (mkSet b x) s = .next t ∧
        (∀ i < 8, (t.reg x).getLsbD i = ((s.reg x).getLsbD i || decide (i = b.val))) ∧ t.f = s.f ∧
        t.cycles = s.cycles + 8 ∧ RegisterOnly [x] s t)

/-- 45_rotate_shift_bit.md R319, R321. -/
def Obligations.ResSetAtHL : Prop :=
  ∀ (b : Fin 8) (s : State),
    (encode (mkResHL b) = [0xCB, byteOf (0x86 + 8 * b.val)] ∧
      ∃ t w, exec (mkResHL b) s = .next t ∧ ReadsThenStores s.hl w [] s t ∧
        (∀ i < 8, w.getLsbD i = ((s.peek s.hl).getLsbD i && decide (i ≠ b.val))) ∧ t.f = s.f ∧ t.cycles = s.cycles + 16) ∧
    (encode (mkSetHL b) = [0xCB, byteOf (0xC6 + 8 * b.val)] ∧
      ∃ t w, exec (mkSetHL b) s = .next t ∧ ReadsThenStores s.hl w [] s t ∧
        (∀ i < 8, w.getLsbD i = ((s.peek s.hl).getLsbD i || decide (i = b.val))) ∧ t.f = s.f ∧ t.cycles = s.cycles + 16)

/-! ## Control flow -/

/-- 46_control_flow.md R330 to R334; the conditions of 10_state.md R25. The next state is given whole. -/
def Obligations.Jumps : Prop :=
  ∀ s : State,
    let jr := fun (e : Byte) => { s with pc := BitVec.ofNat 16 (s.pc.toNat + sextNat e), cycles := s.cycles + 12 }
    (∀ nn, encode (.jpnn nn) = [0xC3, loByte nn, hiByte nn] ∧
      exec (.jpnn nn) s = .next { s with pc := nn, cycles := s.cycles + 16 }) ∧
    (encode .jpHL = [0xE9] ∧ exec .jpHL s = .next { s with pc := s.hl, cycles := s.cycles + 4 }) ∧
    (∀ e, encode (.jre e) = [0x18, e] ∧ exec (.jre e) s = .next (jr e)) ∧
    (∀ cc : Cond,
      let holds := cc = .nz ∧ s.flagZ = false ∨ cc = .z ∧ s.flagZ = true ∨ cc = .nc ∧ s.flagC = false ∨ cc = .c ∧ s.flagC = true
      (∀ nn, encode (mkJpCond cc nn) = [byteOf (0xC2 + 8 * condCode cc), loByte nn, hiByte nn] ∧
        (holds → exec (mkJpCond cc nn) s = .next { s with pc := nn, cycles := s.cycles + 16 }) ∧
        (¬ holds → exec (mkJpCond cc nn) s = .next { s with cycles := s.cycles + 12 })) ∧
      (∀ e, encode (mkJrCond cc e) = [byteOf (0x20 + 8 * condCode cc), e] ∧
        (holds → exec (mkJrCond cc e) s = .next (jr e)) ∧
        (¬ holds → exec (mkJrCond cc e) s = .next { s with cycles := s.cycles + 8 })))

/-- 46_control_flow.md R335, R336, R340. -/
def Obligations.Calls : Prop :=
  ∀ s : State,
    let calls := fun (i : Instr) (target : Nat) (k : Nat) =>
      ∃ t, exec i s = .next t ∧ t.pc.toNat = target ∧ PushedWord s.pc s t ∧ t.f = s.f ∧ SameBut [] s t ∧ t.cycles = s.cycles + k
    (∀ nn, encode (.callnn nn) = [0xCD, loByte nn, hiByte nn] ∧ calls (.callnn nn) nn.toNat 24) ∧
    (∀ cc nn, encode (mkCallCond cc nn) = [byteOf (0xC4 + 8 * condCode cc), loByte nn, hiByte nn] ∧
      let holds := cc = .nz ∧ s.flagZ = false ∨ cc = .z ∧ s.flagZ = true ∨ cc = .nc ∧ s.flagC = false ∨ cc = .c ∧ s.flagC = true
      (holds → calls (mkCallCond cc nn) nn.toNat 24) ∧
      (¬ holds → exec (mkCallCond cc nn) s = .next { s with cycles := s.cycles + 12 })) ∧
    (∀ r : Fin 8, encode (mkRst r) = [byteOf (0xC7 + 8 * r.val)] ∧ calls (mkRst r) (8 * r.val) 16)

/-- 46_control_flow.md R337, R338, R339. -/
def Obligations.Returns : Prop :=
  ∀ s : State,
    let returns := fun (i : Instr) (armed : Bool) (k : Nat) =>
      ∃ t, exec i s = .next t ∧ PoppedWord t.pc s t ∧ (∀ r, t.reg r = s.reg r) ∧ t.f = s.f ∧ t.ime = s.ime ∧
        t.imePending = armed ∧ t.run = s.run ∧ SameBuild s t ∧ t.cycles = s.cycles + k
    (encode .ret = [0xC9] ∧ returns .ret s.imePending 16) ∧
    (∀ cc, encode (mkRetCond cc) = [byteOf (0xC0 + 8 * condCode cc)] ∧
      let holds := cc = .nz ∧ s.flagZ = false ∨ cc = .z ∧ s.flagZ = true ∨ cc = .nc ∧ s.flagC = false ∨ cc = .c ∧ s.flagC = true
      (holds → returns (mkRetCond cc) s.imePending 20) ∧
      (¬ holds → exec (mkRetCond cc) s = .next { s with cycles := s.cycles + 8 })) ∧
    (encode .reti = [0xD9] ∧ returns .reti true 16)

/-! ## CPU control -/

/-- 47_cpu_control.md R350, R356; `PC` is already past the one byte. -/
def Obligations.NopAndIllegal : Prop :=
  ∀ s : State, ∀ w ∈ ([(.nop, 0x00), (.illegalD3, 0xD3), (.illegalDB, 0xDB), (.illegalDD, 0xDD), (.illegalE3, 0xE3),
      (.illegalE4, 0xE4), (.illegalEB, 0xEB), (.illegalEC, 0xEC), (.illegalED, 0xED), (.illegalF4, 0xF4), (.illegalFC, 0xFC),
      (.illegalFD, 0xFD)] : List (Instr × Byte)),
    encode w.1 = [w.2] ∧ exec w.1 s = .next { s with cycles := s.cycles + 4 }

/-- 47_cpu_control.md R351, R352, R354, what the instruction itself does. The next state is given whole. -/
def Obligations.HaltDiEi : Prop :=
  ∀ s : State,
    (encode .halt = [0x76] ∧ exec .halt s = .next { s with run := .halted, cycles := s.cycles + 4 }) ∧
    (encode .di = [0xF3] ∧ exec .di s = .next { s with ime := false, cycles := s.cycles + 4 }) ∧
    (encode .ei = [0xFB] ∧ exec .ei s = .next { s with imePending := true, cycles := s.cycles + 4 })

/-- 47_cpu_control.md R353: the meaning of `0x10` is the parameter `STOP_BEHAVIOUR`, "refuse (default) or a step function" (00_scope.md R10); results under
`noop` or under a step function depend on it, and the form of a step function is the model's choice (log 10). -/
def Obligations.StopIsTheBuildParameter : Prop :=
  ∀ s : State, encode .stop = [0x10] ∧
    (s.stopBehaviour = .noop → exec .stop s = .next { s with cycles := s.cycles + 4 }) ∧
    (s.stopBehaviour = .refuse → exec .stop s = .refused .stopUnspecified) ∧
    (∀ k, s.stopBehaviour = .step k →
      let x := Config.stopStep k s
      let m := s.busAccesses x.accesses
      ∃ t, exec .stop s = .next t ∧
        (t.a = x.a ∧ t.b = x.b ∧ t.c = x.c ∧ t.d = x.d ∧ t.e = x.e ∧ t.h = x.h ∧ t.l = x.l) ∧
        t.f.toNat = x.f.toNat / 16 * 16 ∧ t.sp = x.sp ∧ t.pc = x.pc ∧ t.ime = x.ime ∧ t.run = x.run ∧
        (t.imePending = true ↔ x.imePending = true ∧ x.run = .running) ∧ t.cycles = s.cycles + x.cycles ∧
        (∀ j, t.array j = m.array j) ∧ t.mbc = m.mbc ∧ t.ifReg = m.ifReg ∧ t.ieReg = m.ieReg ∧ t.ports = m.ports ∧ SameBuild s t)
end

