-- ==== Sys2Proof/Laws/Bits.lean ====
section
/-! SUPPORT. The bit-field helpers and the ALU functions by number, one lemma each. -/

namespace Sys2Proof

theorem joinBytes_toNat (hi lo : Byte) : (joinBytes hi lo).toNat = 256 * hi.toNat + lo.toNat := by
  rw [joinBytes, BitVec.toNat_append, Nat.shiftLeft_eq, Nat.mul_comm, ← Nat.two_pow_add_eq_or_of_lt lo.isLt]

theorem highPage_eq (n : Byte) : highPage n = BitVec.ofNat 16 (0xFF00 + n.toNat) := by
  apply BitVec.eq_of_toNat_eq
  rw [highPage, joinBytes_toNat, BitVec.toNat_ofNat, Nat.mod_eq_of_lt (by have := n.isLt; omega)]
  rfl

theorem hiByte_toNat (w : Word) : (hiByte w).toNat = w.toNat / 256 := by
  rw [hiByte, BitVec.extractLsb'_toNat, Nat.shiftRight_eq_div_pow]
  exact Nat.mod_eq_of_lt (by have := w.isLt; omega)

theorem loByte_toNat (w : Word) : (loByte w).toNat = w.toNat % 256 := by simp [loByte]

namespace Machine

theorem sext16_toNat (e : Byte) : (sext16 e).toNat = sextNat e := by
  have h := e.isLt
  rw [sext16, BitVec.toNat_signExtend, BitVec.msb_eq_decide, sextNat]
  simp only [BitVec.toNat_setWidth]
  by_cases h8 : e.toNat < 128
  · rw [if_pos h8]; simp [show ¬ 128 ≤ e.toNat by omega]; omega
  · rw [if_neg h8]; simp [show 128 ≤ e.toNat by omega]; omega

theorem and_low (k : Nat) {w : Nat} (a : BitVec w) (h : k ≤ w) :
    (a &&& BitVec.ofNat w (2 ^ k - 1)).toNat = a.toNat % 2 ^ k := by
  rw [BitVec.toNat_and, BitVec.toNat_ofNat, Nat.mod_eq_of_lt, Nat.and_two_pow_sub_one_eq_mod]
  have := Nat.pow_le_pow_right (show 0 < 2 by decide) h
  have := Nat.two_pow_pos k
  omega

theorem lowNibble_eq (a : Byte) : lowNibble a = a.toNat % 16 := and_low 4 a (by decide)

theorem low12_eq (a : Word) : (a &&& 0x0FFF).toNat = a.toNat % 4096 := and_low 12 a (by decide)

theorem low8_eq (a : Word) : (a &&& 0x00FF).toNat = a.toNat % 256 := and_low 8 a (by decide)

theorem low4_eq (a : Word) : (a &&& 0x000F).toNat = a.toNat % 16 := and_low 4 a (by decide)

/-- A comparison with zero is a comparison of numbers. -/
theorem beq_zero_eq {w : Nat} (a : BitVec w) : (a == 0#w) = decide (a.toNat = 0) := by
  rw [Bool.eq_iff_iff, beq_iff_eq, decide_eq_true_iff]
  exact ⟨fun h => by simp [h], fun h => BitVec.eq_of_toNat_eq (by simpa using h)⟩

/-- `add8` by number (40_alu_primitives.md R160). -/
theorem add8_eq (a b : Byte) (cin : Bool) :
    (add8 a b cin).res.toNat = (a.toNat + b.toNat + cin.toNat) % 256 ∧
    (add8 a b cin).z = decide ((a.toNat + b.toNat + cin.toNat) % 256 = 0) ∧ (add8 a b cin).n = false ∧
    (add8 a b cin).h = decide (a.toNat % 16 + b.toNat % 16 + cin.toNat > 15) ∧
    (add8 a b cin).c = decide (a.toNat + b.toNat + cin.toNat > 255) := by
  simp [add8, lowNibble_eq, beq_zero_eq]

/-- `sub8` by number (R161): the borrows are comparisons. -/
theorem sub8_eq (a b : Byte) (cin : Bool) :
    (sub8 a b cin).res.toNat = (256 + a.toNat - b.toNat - cin.toNat) % 256 ∧
    (sub8 a b cin).z = decide ((256 + a.toNat - b.toNat - cin.toNat) % 256 = 0) ∧ (sub8 a b cin).n = true ∧
    (sub8 a b cin).h = decide (a.toNat % 16 < b.toNat % 16 + cin.toNat) ∧
    (sub8 a b cin).c = decide (a.toNat < b.toNat + cin.toNat) := by
  have ha := a.isLt; have hb := b.isLt
  have hc : cin.toNat ≤ 1 := Bool.toNat_le cin
  have e : (BitVec.ofInt 8 ((a.toNat : Int) - b.toNat - cin.toNat)).toNat =
      (256 + a.toNat - b.toNat - cin.toNat) % 256 := by
    rw [BitVec.toNat_ofInt]; omega
  refine ⟨e, ?_, rfl, ?_, ?_⟩
  · show (_ == 0#8) = _
    rw [beq_zero_eq]
    exact congrArg (fun n => decide (n = 0)) e
  · simp only [sub8, lowNibble_eq]; congr 1; rw [eq_iff_iff]; omega
  · simp only [sub8]; congr 1; rw [eq_iff_iff]; omega

/-- `inc8` by number (R164). -/
theorem inc8_eq (a : Byte) (c : Bool) : (inc8 a c).res.toNat = (a.toNat + 1) % 256 ∧
    (inc8 a c).z = decide (a.toNat = 0xFF) ∧ (inc8 a c).h = decide (a.toNat % 16 = 0x0F) := by
  have := a.isLt
  refine ⟨by simp [inc8], ?_, by simp only [inc8, lowNibble_eq]⟩
  show (a + 1 == 0#8) = _
  rw [beq_zero_eq]; congr 1; rw [eq_iff_iff]; simp; omega

/-- `dec8` by number (R164). -/
theorem dec8_eq (a : Byte) (c : Bool) : (dec8 a c).res.toNat = (a.toNat + 255) % 256 ∧
    (dec8 a c).z = decide (a.toNat = 1) ∧ (dec8 a c).h = decide (a.toNat % 16 = 0) := by
  have := a.isLt
  refine ⟨by simp [dec8, BitVec.toNat_sub]; omega, ?_, by simp only [dec8, lowNibble_eq]⟩
  show (a - 1 == 0#8) = _
  rw [beq_zero_eq]; congr 1; rw [eq_iff_iff]; simp [BitVec.toNat_sub]; omega

/-- `add16` by number (R162). -/
theorem add16_eq (a b : Word) :
    (add16 a b).1.toNat = (a.toNat + b.toNat) % 65536 ∧
    (add16 a b).2.1 = decide (a.toNat % 4096 + b.toNat % 4096 > 0x0FFF) ∧
    (add16 a b).2.2 = decide (a.toNat + b.toNat > 0xFFFF) := by
  simp only [add16, BitVec.toNat_ofNat, low12_eq, and_self]

/-- `spadd` by number (44_alu16.md R284). -/
theorem spadd_eq (mode : SpaddFlags) (sp : Word) (e : Byte) :
    (spadd mode sp e).1.toNat = (sp.toNat + sextNat e) % 65536 ∧
    ((spadd mode sp e).2.1, (spadd mode sp e).2.2) = spaddFlagsNat mode sp e := by
  cases mode <;>
    simp only [spadd, spaddFlagsNat, BitVec.toNat_add, sext16_toNat, low12_eq, low8_eq, low4_eq, lowNibble_eq, and_self]

/-- `daa` by number (R163). -/
theorem daa_eq (a : Byte) (n h c : Bool) :
    (daa a n h c).res.toNat = (daaNat a.toNat n h c).1 ∧
    (daa a n h c).z = decide ((daaNat a.toNat n h c).1 = 0) ∧ (daa a n h c).n = n ∧ (daa a n h c).h = false ∧
    (daa a n h c).c = (daaNat a.toNat n h c).2 := by
  have key : (daa a n h c).res.toNat = (daaNat a.toNat n h c).1 := by
    have ha := a.isLt
    simp only [daa, daaNat, lowNibble_eq]
    cases n <;> simp only [if_true, if_false, Bool.false_eq_true]
    · by_cases h1 : (c || decide (a.toNat > 0x99)) = true <;> by_cases h2 : (h || decide (a.toNat % 16 > 0x09)) = true <;>
        simp [h1, h2]
    · cases c <;> cases h <;> simp [BitVec.toNat_sub] <;> omega
  refine ⟨key, ?_, ?_, ?_, ?_⟩
  · rw [← key, ← beq_zero_eq]
    cases n <;> rfl
  · cases n <;> rfl
  · cases n <;> rfl
  · cases n <;> simp [daa, daaNat]

set_option maxRecDepth 4000 in
/-- The shifts and rotates by number (R166 to R173). -/
theorem shiftFn_eq (k : ShiftOp) (v : Byte) (cin : Bool) :
    (shiftFn k v cin).1.toNat = (shiftNat k v.toNat cin.toNat).1 ∧ (shiftFn k v cin).2 = (shiftNat k v.toNat cin.toNat).2 := by
  obtain ⟨f⟩ := v
  cases k <;> cases cin <;> revert f <;> decide

/-- `bit8` by number (R174). -/
theorem bit8_eq (b : Fin 8) (v : Byte) : bit8 b v = decide (bitNat b v.toNat = 0) := by
  rw [bit8, BitVec.getLsbD, Nat.testBit_eq_decide_div_mod_eq, bitNat]
  have := Nat.mod_two_eq_zero_or_one (v.toNat / 2 ^ b.val)
  rcases this with h | h <;> simp [h]

/-- `res8` and `set8` bit by bit (R175). -/
theorem res8_getLsbD (b : Fin 8) (v : Byte) (i : Nat) (h : i < 8) :
    (res8 b v).getLsbD i = (v.getLsbD i && decide (i ≠ b.val)) := by
  have hb := b.isLt
  simp only [res8, BitVec.getLsbD_and, BitVec.getLsbD_not, BitVec.getLsbD_shiftLeft, BitVec.getLsbD_one, h, decide_true,
    Bool.true_and]
  by_cases e : i = b.val
  · simp [e]
  · by_cases l : i < b.val <;> simp [e, l]
    omega

theorem set8_getLsbD (b : Fin 8) (v : Byte) (i : Nat) (h : i < 8) :
    (set8 b v).getLsbD i = (v.getLsbD i || decide (i = b.val)) := by
  have hb := b.isLt
  simp only [set8, BitVec.getLsbD_or, BitVec.getLsbD_shiftLeft, BitVec.getLsbD_one, h, decide_true, Bool.true_and]
  by_cases e : i = b.val
  · simp [e]
  · by_cases l : i < b.val <;> simp [e, l]
    omega

end Machine
end Sys2Proof
end

