-- ==== Sys2Proof/Laws/State.lean ====
section
/-! SUPPORT. One lemma per field per update of the state, so that no later proof unfolds a record update. -/

namespace Sys2Proof.Machine

/-! ## `tick` -/

@[simp] theorem State.tick_a (s : State) (n : Nat) : (s.tick n).a = s.a := rfl
@[simp] theorem State.tick_f (s : State) (n : Nat) : (s.tick n).f = s.f := rfl
@[simp] theorem State.tick_b (s : State) (n : Nat) : (s.tick n).b = s.b := rfl
@[simp] theorem State.tick_c (s : State) (n : Nat) : (s.tick n).c = s.c := rfl
@[simp] theorem State.tick_d (s : State) (n : Nat) : (s.tick n).d = s.d := rfl
@[simp] theorem State.tick_e (s : State) (n : Nat) : (s.tick n).e = s.e := rfl
@[simp] theorem State.tick_h (s : State) (n : Nat) : (s.tick n).h = s.h := rfl
@[simp] theorem State.tick_l (s : State) (n : Nat) : (s.tick n).l = s.l := rfl
@[simp] theorem State.tick_sp (s : State) (n : Nat) : (s.tick n).sp = s.sp := rfl
@[simp] theorem State.tick_pc (s : State) (n : Nat) : (s.tick n).pc = s.pc := rfl
@[simp] theorem State.tick_ime (s : State) (n : Nat) : (s.tick n).ime = s.ime := rfl
@[simp] theorem State.tick_imePending (s : State) (n : Nat) : (s.tick n).imePending = s.imePending := rfl
@[simp] theorem State.tick_run (s : State) (n : Nat) : (s.tick n).run = s.run := rfl
@[simp] theorem State.tick_ifReg (s : State) (n : Nat) : (s.tick n).ifReg = s.ifReg := rfl
@[simp] theorem State.tick_ieReg (s : State) (n : Nat) : (s.tick n).ieReg = s.ieReg := rfl
@[simp] theorem State.tick_cycles (s : State) (n : Nat) : (s.tick n).cycles = s.cycles + n := rfl
@[simp] theorem State.tick_vram (s : State) (n : Nat) : (s.tick n).vram = s.vram := rfl
@[simp] theorem State.tick_wram0 (s : State) (n : Nat) : (s.tick n).wram0 = s.wram0 := rfl
@[simp] theorem State.tick_wram1 (s : State) (n : Nat) : (s.tick n).wram1 = s.wram1 := rfl
@[simp] theorem State.tick_oam (s : State) (n : Nat) : (s.tick n).oam = s.oam := rfl
@[simp] theorem State.tick_hram (s : State) (n : Nat) : (s.tick n).hram = s.hram := rfl
@[simp] theorem State.tick_cram (s : State) (n : Nat) : (s.tick n).cram = s.cram := rfl
@[simp] theorem State.tick_rtc (s : State) (n : Nat) : (s.tick n).rtc = s.rtc := rfl
@[simp] theorem State.tick_rom (s : State) (n : Nat) : (s.tick n).rom = s.rom := rfl
@[simp] theorem State.tick_mbc (s : State) (n : Nat) : (s.tick n).mbc = s.mbc := rfl
@[simp] theorem State.tick_romBanks (s : State) (n : Nat) : (s.tick n).romBanks = s.romBanks := rfl
@[simp] theorem State.tick_ramBytes (s : State) (n : Nat) : (s.tick n).ramBytes = s.ramBytes := rfl
@[simp] theorem State.tick_spaddFlags (s : State) (n : Nat) : (s.tick n).spaddFlags = s.spaddFlags := rfl
@[simp] theorem State.tick_stopBehaviour (s : State) (n : Nat) : (s.tick n).stopBehaviour = s.stopBehaviour := rfl
@[simp] theorem State.tick_ports (s : State) (n : Nat) : (s.tick n).ports = s.ports := rfl

/-! ## `setF` and `setFlags` -/

@[simp] theorem State.setF_a (s : State) (v : Byte) : (s.setF v).a = s.a := rfl
@[simp] theorem State.setF_f (s : State) (v : Byte) : (s.setF v).f = v &&& 0xF0 := rfl
@[simp] theorem State.setF_b (s : State) (v : Byte) : (s.setF v).b = s.b := rfl
@[simp] theorem State.setF_c (s : State) (v : Byte) : (s.setF v).c = s.c := rfl
@[simp] theorem State.setF_d (s : State) (v : Byte) : (s.setF v).d = s.d := rfl
@[simp] theorem State.setF_e (s : State) (v : Byte) : (s.setF v).e = s.e := rfl
@[simp] theorem State.setF_h (s : State) (v : Byte) : (s.setF v).h = s.h := rfl
@[simp] theorem State.setF_l (s : State) (v : Byte) : (s.setF v).l = s.l := rfl
@[simp] theorem State.setF_sp (s : State) (v : Byte) : (s.setF v).sp = s.sp := rfl
@[simp] theorem State.setF_pc (s : State) (v : Byte) : (s.setF v).pc = s.pc := rfl
@[simp] theorem State.setF_ime (s : State) (v : Byte) : (s.setF v).ime = s.ime := rfl
@[simp] theorem State.setF_imePending (s : State) (v : Byte) : (s.setF v).imePending = s.imePending := rfl
@[simp] theorem State.setF_run (s : State) (v : Byte) : (s.setF v).run = s.run := rfl
@[simp] theorem State.setF_ifReg (s : State) (v : Byte) : (s.setF v).ifReg = s.ifReg := rfl
@[simp] theorem State.setF_ieReg (s : State) (v : Byte) : (s.setF v).ieReg = s.ieReg := rfl
@[simp] theorem State.setF_cycles (s : State) (v : Byte) : (s.setF v).cycles = s.cycles := rfl
@[simp] theorem State.setF_vram (s : State) (v : Byte) : (s.setF v).vram = s.vram := rfl
@[simp] theorem State.setF_wram0 (s : State) (v : Byte) : (s.setF v).wram0 = s.wram0 := rfl
@[simp] theorem State.setF_wram1 (s : State) (v : Byte) : (s.setF v).wram1 = s.wram1 := rfl
@[simp] theorem State.setF_oam (s : State) (v : Byte) : (s.setF v).oam = s.oam := rfl
@[simp] theorem State.setF_hram (s : State) (v : Byte) : (s.setF v).hram = s.hram := rfl
@[simp] theorem State.setF_cram (s : State) (v : Byte) : (s.setF v).cram = s.cram := rfl
@[simp] theorem State.setF_rtc (s : State) (v : Byte) : (s.setF v).rtc = s.rtc := rfl
@[simp] theorem State.setF_rom (s : State) (v : Byte) : (s.setF v).rom = s.rom := rfl
@[simp] theorem State.setF_mbc (s : State) (v : Byte) : (s.setF v).mbc = s.mbc := rfl
@[simp] theorem State.setF_romBanks (s : State) (v : Byte) : (s.setF v).romBanks = s.romBanks := rfl
@[simp] theorem State.setF_ramBytes (s : State) (v : Byte) : (s.setF v).ramBytes = s.ramBytes := rfl
@[simp] theorem State.setF_spaddFlags (s : State) (v : Byte) : (s.setF v).spaddFlags = s.spaddFlags := rfl
@[simp] theorem State.setF_stopBehaviour (s : State) (v : Byte) : (s.setF v).stopBehaviour = s.stopBehaviour := rfl
@[simp] theorem State.setF_ports (s : State) (v : Byte) : (s.setF v).ports = s.ports := rfl
@[simp] theorem State.setFlags_a (s : State) (z n h c : Bool) : (s.setFlags z n h c).a = s.a := rfl
@[simp] theorem State.setFlags_f (s : State) (z n h c : Bool) : (s.setFlags z n h c).f = packFlags z n h c &&& 0xF0 := rfl
@[simp] theorem State.setFlags_b (s : State) (z n h c : Bool) : (s.setFlags z n h c).b = s.b := rfl
@[simp] theorem State.setFlags_c (s : State) (z n h c : Bool) : (s.setFlags z n h c).c = s.c := rfl
@[simp] theorem State.setFlags_d (s : State) (z n h c : Bool) : (s.setFlags z n h c).d = s.d := rfl
@[simp] theorem State.setFlags_e (s : State) (z n h c : Bool) : (s.setFlags z n h c).e = s.e := rfl
@[simp] theorem State.setFlags_h (s : State) (z n h c : Bool) : (s.setFlags z n h c).h = s.h := rfl
@[simp] theorem State.setFlags_l (s : State) (z n h c : Bool) : (s.setFlags z n h c).l = s.l := rfl
@[simp] theorem State.setFlags_sp (s : State) (z n h c : Bool) : (s.setFlags z n h c).sp = s.sp := rfl
@[simp] theorem State.setFlags_pc (s : State) (z n h c : Bool) : (s.setFlags z n h c).pc = s.pc := rfl
@[simp] theorem State.setFlags_ime (s : State) (z n h c : Bool) : (s.setFlags z n h c).ime = s.ime := rfl
@[simp] theorem State.setFlags_imePending (s : State) (z n h c : Bool) : (s.setFlags z n h c).imePending = s.imePending := rfl
@[simp] theorem State.setFlags_run (s : State) (z n h c : Bool) : (s.setFlags z n h c).run = s.run := rfl
@[simp] theorem State.setFlags_ifReg (s : State) (z n h c : Bool) : (s.setFlags z n h c).ifReg = s.ifReg := rfl
@[simp] theorem State.setFlags_ieReg (s : State) (z n h c : Bool) : (s.setFlags z n h c).ieReg = s.ieReg := rfl
@[simp] theorem State.setFlags_cycles (s : State) (z n h c : Bool) : (s.setFlags z n h c).cycles = s.cycles := rfl
@[simp] theorem State.setFlags_vram (s : State) (z n h c : Bool) : (s.setFlags z n h c).vram = s.vram := rfl
@[simp] theorem State.setFlags_wram0 (s : State) (z n h c : Bool) : (s.setFlags z n h c).wram0 = s.wram0 := rfl
@[simp] theorem State.setFlags_wram1 (s : State) (z n h c : Bool) : (s.setFlags z n h c).wram1 = s.wram1 := rfl
@[simp] theorem State.setFlags_oam (s : State) (z n h c : Bool) : (s.setFlags z n h c).oam = s.oam := rfl
@[simp] theorem State.setFlags_hram (s : State) (z n h c : Bool) : (s.setFlags z n h c).hram = s.hram := rfl
@[simp] theorem State.setFlags_cram (s : State) (z n h c : Bool) : (s.setFlags z n h c).cram = s.cram := rfl
@[simp] theorem State.setFlags_rtc (s : State) (z n h c : Bool) : (s.setFlags z n h c).rtc = s.rtc := rfl
@[simp] theorem State.setFlags_rom (s : State) (z n h c : Bool) : (s.setFlags z n h c).rom = s.rom := rfl
@[simp] theorem State.setFlags_mbc (s : State) (z n h c : Bool) : (s.setFlags z n h c).mbc = s.mbc := rfl
@[simp] theorem State.setFlags_romBanks (s : State) (z n h c : Bool) : (s.setFlags z n h c).romBanks = s.romBanks := rfl
@[simp] theorem State.setFlags_ramBytes (s : State) (z n h c : Bool) : (s.setFlags z n h c).ramBytes = s.ramBytes := rfl
@[simp] theorem State.setFlags_spaddFlags (s : State) (z n h c : Bool) : (s.setFlags z n h c).spaddFlags = s.spaddFlags := rfl
@[simp] theorem State.setFlags_stopBehaviour (s : State) (z n h c : Bool) : (s.setFlags z n h c).stopBehaviour = s.stopBehaviour := rfl
@[simp] theorem State.setFlags_ports (s : State) (z n h c : Bool) : (s.setFlags z n h c).ports = s.ports := rfl

/-! ## `setReg` -/

@[simp] theorem State.setReg_f (s : State) (r : Reg8) (v : Byte) : (s.setReg r v).f = s.f := by cases r <;> rfl
@[simp] theorem State.setReg_sp (s : State) (r : Reg8) (v : Byte) : (s.setReg r v).sp = s.sp := by cases r <;> rfl
@[simp] theorem State.setReg_pc (s : State) (r : Reg8) (v : Byte) : (s.setReg r v).pc = s.pc := by cases r <;> rfl
@[simp] theorem State.setReg_ime (s : State) (r : Reg8) (v : Byte) : (s.setReg r v).ime = s.ime := by cases r <;> rfl
@[simp] theorem State.setReg_imePending (s : State) (r : Reg8) (v : Byte) : (s.setReg r v).imePending = s.imePending := by cases r <;> rfl
@[simp] theorem State.setReg_run (s : State) (r : Reg8) (v : Byte) : (s.setReg r v).run = s.run := by cases r <;> rfl
@[simp] theorem State.setReg_ifReg (s : State) (r : Reg8) (v : Byte) : (s.setReg r v).ifReg = s.ifReg := by cases r <;> rfl
@[simp] theorem State.setReg_ieReg (s : State) (r : Reg8) (v : Byte) : (s.setReg r v).ieReg = s.ieReg := by cases r <;> rfl
@[simp] theorem State.setReg_cycles (s : State) (r : Reg8) (v : Byte) : (s.setReg r v).cycles = s.cycles := by cases r <;> rfl
@[simp] theorem State.setReg_vram (s : State) (r : Reg8) (v : Byte) : (s.setReg r v).vram = s.vram := by cases r <;> rfl
@[simp] theorem State.setReg_wram0 (s : State) (r : Reg8) (v : Byte) : (s.setReg r v).wram0 = s.wram0 := by cases r <;> rfl
@[simp] theorem State.setReg_wram1 (s : State) (r : Reg8) (v : Byte) : (s.setReg r v).wram1 = s.wram1 := by cases r <;> rfl
@[simp] theorem State.setReg_oam (s : State) (r : Reg8) (v : Byte) : (s.setReg r v).oam = s.oam := by cases r <;> rfl
@[simp] theorem State.setReg_hram (s : State) (r : Reg8) (v : Byte) : (s.setReg r v).hram = s.hram := by cases r <;> rfl
@[simp] theorem State.setReg_cram (s : State) (r : Reg8) (v : Byte) : (s.setReg r v).cram = s.cram := by cases r <;> rfl
@[simp] theorem State.setReg_rtc (s : State) (r : Reg8) (v : Byte) : (s.setReg r v).rtc = s.rtc := by cases r <;> rfl
@[simp] theorem State.setReg_rom (s : State) (r : Reg8) (v : Byte) : (s.setReg r v).rom = s.rom := by cases r <;> rfl
@[simp] theorem State.setReg_mbc (s : State) (r : Reg8) (v : Byte) : (s.setReg r v).mbc = s.mbc := by cases r <;> rfl
@[simp] theorem State.setReg_romBanks (s : State) (r : Reg8) (v : Byte) : (s.setReg r v).romBanks = s.romBanks := by cases r <;> rfl
@[simp] theorem State.setReg_ramBytes (s : State) (r : Reg8) (v : Byte) : (s.setReg r v).ramBytes = s.ramBytes := by cases r <;> rfl
@[simp] theorem State.setReg_spaddFlags (s : State) (r : Reg8) (v : Byte) : (s.setReg r v).spaddFlags = s.spaddFlags := by cases r <;> rfl
@[simp] theorem State.setReg_stopBehaviour (s : State) (r : Reg8) (v : Byte) : (s.setReg r v).stopBehaviour = s.stopBehaviour := by cases r <;> rfl
@[simp] theorem State.setReg_ports (s : State) (r : Reg8) (v : Byte) : (s.setReg r v).ports = s.ports := by cases r <;> rfl

/-! ## `setPair` -/

@[simp] theorem State.setPair_a (s : State) (p : Pair) (v : Word) : (s.setPair p v).a = s.a := by cases p <;> rfl
@[simp] theorem State.setPair_f (s : State) (p : Pair) (v : Word) : (s.setPair p v).f = s.f := by cases p <;> rfl
@[simp] theorem State.setPair_pc (s : State) (p : Pair) (v : Word) : (s.setPair p v).pc = s.pc := by cases p <;> rfl
@[simp] theorem State.setPair_ime (s : State) (p : Pair) (v : Word) : (s.setPair p v).ime = s.ime := by cases p <;> rfl
@[simp] theorem State.setPair_imePending (s : State) (p : Pair) (v : Word) : (s.setPair p v).imePending = s.imePending := by cases p <;> rfl
@[simp] theorem State.setPair_run (s : State) (p : Pair) (v : Word) : (s.setPair p v).run = s.run := by cases p <;> rfl
@[simp] theorem State.setPair_ifReg (s : State) (p : Pair) (v : Word) : (s.setPair p v).ifReg = s.ifReg := by cases p <;> rfl
@[simp] theorem State.setPair_ieReg (s : State) (p : Pair) (v : Word) : (s.setPair p v).ieReg = s.ieReg := by cases p <;> rfl
@[simp] theorem State.setPair_cycles (s : State) (p : Pair) (v : Word) : (s.setPair p v).cycles = s.cycles := by cases p <;> rfl
@[simp] theorem State.setPair_vram (s : State) (p : Pair) (v : Word) : (s.setPair p v).vram = s.vram := by cases p <;> rfl
@[simp] theorem State.setPair_wram0 (s : State) (p : Pair) (v : Word) : (s.setPair p v).wram0 = s.wram0 := by cases p <;> rfl
@[simp] theorem State.setPair_wram1 (s : State) (p : Pair) (v : Word) : (s.setPair p v).wram1 = s.wram1 := by cases p <;> rfl
@[simp] theorem State.setPair_oam (s : State) (p : Pair) (v : Word) : (s.setPair p v).oam = s.oam := by cases p <;> rfl
@[simp] theorem State.setPair_hram (s : State) (p : Pair) (v : Word) : (s.setPair p v).hram = s.hram := by cases p <;> rfl
@[simp] theorem State.setPair_cram (s : State) (p : Pair) (v : Word) : (s.setPair p v).cram = s.cram := by cases p <;> rfl
@[simp] theorem State.setPair_rtc (s : State) (p : Pair) (v : Word) : (s.setPair p v).rtc = s.rtc := by cases p <;> rfl
@[simp] theorem State.setPair_rom (s : State) (p : Pair) (v : Word) : (s.setPair p v).rom = s.rom := by cases p <;> rfl
@[simp] theorem State.setPair_mbc (s : State) (p : Pair) (v : Word) : (s.setPair p v).mbc = s.mbc := by cases p <;> rfl
@[simp] theorem State.setPair_romBanks (s : State) (p : Pair) (v : Word) : (s.setPair p v).romBanks = s.romBanks := by cases p <;> rfl
@[simp] theorem State.setPair_ramBytes (s : State) (p : Pair) (v : Word) : (s.setPair p v).ramBytes = s.ramBytes := by cases p <;> rfl
@[simp] theorem State.setPair_spaddFlags (s : State) (p : Pair) (v : Word) : (s.setPair p v).spaddFlags = s.spaddFlags := by cases p <;> rfl
@[simp] theorem State.setPair_stopBehaviour (s : State) (p : Pair) (v : Word) : (s.setPair p v).stopBehaviour = s.stopBehaviour := by cases p <;> rfl
@[simp] theorem State.setPair_ports (s : State) (p : Pair) (v : Word) : (s.setPair p v).ports = s.ports := by cases p <;> rfl
@[simp] theorem State.setPair_bc_sp (s : State) (v : Word) : (s.setPair .bc v).sp = s.sp := rfl
@[simp] theorem State.setPair_de_sp (s : State) (v : Word) : (s.setPair .de v).sp = s.sp := rfl
@[simp] theorem State.setPair_hl_sp (s : State) (v : Word) : (s.setPair .hl v).sp = s.sp := rfl
@[simp] theorem State.setPair_sp_sp (s : State) (v : Word) : (s.setPair .sp v).sp = v := rfl

/-! ## `noteRead` -/

@[simp] theorem State.noteRead_a (s : State) (addr : Word) : (s.noteRead addr).a = s.a := by unfold State.noteRead; split <;> rfl
@[simp] theorem State.noteRead_f (s : State) (addr : Word) : (s.noteRead addr).f = s.f := by unfold State.noteRead; split <;> rfl
@[simp] theorem State.noteRead_b (s : State) (addr : Word) : (s.noteRead addr).b = s.b := by unfold State.noteRead; split <;> rfl
@[simp] theorem State.noteRead_c (s : State) (addr : Word) : (s.noteRead addr).c = s.c := by unfold State.noteRead; split <;> rfl
@[simp] theorem State.noteRead_d (s : State) (addr : Word) : (s.noteRead addr).d = s.d := by unfold State.noteRead; split <;> rfl
@[simp] theorem State.noteRead_e (s : State) (addr : Word) : (s.noteRead addr).e = s.e := by unfold State.noteRead; split <;> rfl
@[simp] theorem State.noteRead_h (s : State) (addr : Word) : (s.noteRead addr).h = s.h := by unfold State.noteRead; split <;> rfl
@[simp] theorem State.noteRead_l (s : State) (addr : Word) : (s.noteRead addr).l = s.l := by unfold State.noteRead; split <;> rfl
@[simp] theorem State.noteRead_sp (s : State) (addr : Word) : (s.noteRead addr).sp = s.sp := by unfold State.noteRead; split <;> rfl
@[simp] theorem State.noteRead_pc (s : State) (addr : Word) : (s.noteRead addr).pc = s.pc := by unfold State.noteRead; split <;> rfl
@[simp] theorem State.noteRead_ime (s : State) (addr : Word) : (s.noteRead addr).ime = s.ime := by unfold State.noteRead; split <;> rfl
@[simp] theorem State.noteRead_imePending (s : State) (addr : Word) : (s.noteRead addr).imePending = s.imePending := by unfold State.noteRead; split <;> rfl
@[simp] theorem State.noteRead_run (s : State) (addr : Word) : (s.noteRead addr).run = s.run := by unfold State.noteRead; split <;> rfl
@[simp] theorem State.noteRead_ifReg (s : State) (addr : Word) : (s.noteRead addr).ifReg = s.ifReg := by unfold State.noteRead; split <;> rfl
@[simp] theorem State.noteRead_ieReg (s : State) (addr : Word) : (s.noteRead addr).ieReg = s.ieReg := by unfold State.noteRead; split <;> rfl
@[simp] theorem State.noteRead_cycles (s : State) (addr : Word) : (s.noteRead addr).cycles = s.cycles := by unfold State.noteRead; split <;> rfl
@[simp] theorem State.noteRead_vram (s : State) (addr : Word) : (s.noteRead addr).vram = s.vram := by unfold State.noteRead; split <;> rfl
@[simp] theorem State.noteRead_wram0 (s : State) (addr : Word) : (s.noteRead addr).wram0 = s.wram0 := by unfold State.noteRead; split <;> rfl
@[simp] theorem State.noteRead_wram1 (s : State) (addr : Word) : (s.noteRead addr).wram1 = s.wram1 := by unfold State.noteRead; split <;> rfl
@[simp] theorem State.noteRead_oam (s : State) (addr : Word) : (s.noteRead addr).oam = s.oam := by unfold State.noteRead; split <;> rfl
@[simp] theorem State.noteRead_hram (s : State) (addr : Word) : (s.noteRead addr).hram = s.hram := by unfold State.noteRead; split <;> rfl
@[simp] theorem State.noteRead_cram (s : State) (addr : Word) : (s.noteRead addr).cram = s.cram := by unfold State.noteRead; split <;> rfl
@[simp] theorem State.noteRead_rtc (s : State) (addr : Word) : (s.noteRead addr).rtc = s.rtc := by unfold State.noteRead; split <;> rfl
@[simp] theorem State.noteRead_rom (s : State) (addr : Word) : (s.noteRead addr).rom = s.rom := by unfold State.noteRead; split <;> rfl
@[simp] theorem State.noteRead_mbc (s : State) (addr : Word) : (s.noteRead addr).mbc = s.mbc := by unfold State.noteRead; split <;> rfl
@[simp] theorem State.noteRead_romBanks (s : State) (addr : Word) : (s.noteRead addr).romBanks = s.romBanks := by unfold State.noteRead; split <;> rfl
@[simp] theorem State.noteRead_ramBytes (s : State) (addr : Word) : (s.noteRead addr).ramBytes = s.ramBytes := by unfold State.noteRead; split <;> rfl
@[simp] theorem State.noteRead_spaddFlags (s : State) (addr : Word) : (s.noteRead addr).spaddFlags = s.spaddFlags := by unfold State.noteRead; split <;> rfl
@[simp] theorem State.noteRead_stopBehaviour (s : State) (addr : Word) : (s.noteRead addr).stopBehaviour = s.stopBehaviour := by unfold State.noteRead; split <;> rfl
theorem State.noteRead_ports (s : State) (addr : Word) : (s.noteRead addr).ports = portsAfterRead s addr := by
  unfold State.noteRead portsAfterRead
  split <;> simp_all


/-! ## `setArray`, `writeLoc` and `memWrite` -/

@[simp] theorem State.setArray_a (s : State) (k : ArrayId) (m : Mem) : (s.setArray k m).a = s.a := by cases k <;> rfl
@[simp] theorem State.setArray_f (s : State) (k : ArrayId) (m : Mem) : (s.setArray k m).f = s.f := by cases k <;> rfl
@[simp] theorem State.setArray_b (s : State) (k : ArrayId) (m : Mem) : (s.setArray k m).b = s.b := by cases k <;> rfl
@[simp] theorem State.setArray_c (s : State) (k : ArrayId) (m : Mem) : (s.setArray k m).c = s.c := by cases k <;> rfl
@[simp] theorem State.setArray_d (s : State) (k : ArrayId) (m : Mem) : (s.setArray k m).d = s.d := by cases k <;> rfl
@[simp] theorem State.setArray_e (s : State) (k : ArrayId) (m : Mem) : (s.setArray k m).e = s.e := by cases k <;> rfl
@[simp] theorem State.setArray_h (s : State) (k : ArrayId) (m : Mem) : (s.setArray k m).h = s.h := by cases k <;> rfl
@[simp] theorem State.setArray_l (s : State) (k : ArrayId) (m : Mem) : (s.setArray k m).l = s.l := by cases k <;> rfl
@[simp] theorem State.setArray_sp (s : State) (k : ArrayId) (m : Mem) : (s.setArray k m).sp = s.sp := by cases k <;> rfl
@[simp] theorem State.setArray_pc (s : State) (k : ArrayId) (m : Mem) : (s.setArray k m).pc = s.pc := by cases k <;> rfl
@[simp] theorem State.setArray_ime (s : State) (k : ArrayId) (m : Mem) : (s.setArray k m).ime = s.ime := by cases k <;> rfl
@[simp] theorem State.setArray_imePending (s : State) (k : ArrayId) (m : Mem) : (s.setArray k m).imePending = s.imePending := by cases k <;> rfl
@[simp] theorem State.setArray_run (s : State) (k : ArrayId) (m : Mem) : (s.setArray k m).run = s.run := by cases k <;> rfl
@[simp] theorem State.setArray_ifReg (s : State) (k : ArrayId) (m : Mem) : (s.setArray k m).ifReg = s.ifReg := by cases k <;> rfl
@[simp] theorem State.setArray_ieReg (s : State) (k : ArrayId) (m : Mem) : (s.setArray k m).ieReg = s.ieReg := by cases k <;> rfl
@[simp] theorem State.setArray_cycles (s : State) (k : ArrayId) (m : Mem) : (s.setArray k m).cycles = s.cycles := by cases k <;> rfl
@[simp] theorem State.setArray_mbc (s : State) (k : ArrayId) (m : Mem) : (s.setArray k m).mbc = s.mbc := by cases k <;> rfl
@[simp] theorem State.setArray_romBanks (s : State) (k : ArrayId) (m : Mem) : (s.setArray k m).romBanks = s.romBanks := by cases k <;> rfl
@[simp] theorem State.setArray_ramBytes (s : State) (k : ArrayId) (m : Mem) : (s.setArray k m).ramBytes = s.ramBytes := by cases k <;> rfl
@[simp] theorem State.setArray_spaddFlags (s : State) (k : ArrayId) (m : Mem) : (s.setArray k m).spaddFlags = s.spaddFlags := by cases k <;> rfl
@[simp] theorem State.setArray_stopBehaviour (s : State) (k : ArrayId) (m : Mem) : (s.setArray k m).stopBehaviour = s.stopBehaviour := by cases k <;> rfl
@[simp] theorem State.setArray_ports (s : State) (k : ArrayId) (m : Mem) : (s.setArray k m).ports = s.ports := by cases k <;> rfl
@[simp] theorem State.writeLoc_a (s : State) (loc : Loc) (addr : Word) (v : Byte) : (s.writeLoc loc addr v).a = s.a := by
  cases loc <;> simp [State.writeLoc, State.writeCell]
@[simp] theorem State.memWrite_a (s : State) (addr : Word) (v : Byte) : (s.memWrite addr v).a = s.a := State.writeLoc_a ..
@[simp] theorem State.writeLoc_f (s : State) (loc : Loc) (addr : Word) (v : Byte) : (s.writeLoc loc addr v).f = s.f := by
  cases loc <;> simp [State.writeLoc, State.writeCell]
@[simp] theorem State.memWrite_f (s : State) (addr : Word) (v : Byte) : (s.memWrite addr v).f = s.f := State.writeLoc_f ..
@[simp] theorem State.writeLoc_b (s : State) (loc : Loc) (addr : Word) (v : Byte) : (s.writeLoc loc addr v).b = s.b := by
  cases loc <;> simp [State.writeLoc, State.writeCell]
@[simp] theorem State.memWrite_b (s : State) (addr : Word) (v : Byte) : (s.memWrite addr v).b = s.b := State.writeLoc_b ..
@[simp] theorem State.writeLoc_c (s : State) (loc : Loc) (addr : Word) (v : Byte) : (s.writeLoc loc addr v).c = s.c := by
  cases loc <;> simp [State.writeLoc, State.writeCell]
@[simp] theorem State.memWrite_c (s : State) (addr : Word) (v : Byte) : (s.memWrite addr v).c = s.c := State.writeLoc_c ..
@[simp] theorem State.writeLoc_d (s : State) (loc : Loc) (addr : Word) (v : Byte) : (s.writeLoc loc addr v).d = s.d := by
  cases loc <;> simp [State.writeLoc, State.writeCell]
@[simp] theorem State.memWrite_d (s : State) (addr : Word) (v : Byte) : (s.memWrite addr v).d = s.d := State.writeLoc_d ..
@[simp] theorem State.writeLoc_e (s : State) (loc : Loc) (addr : Word) (v : Byte) : (s.writeLoc loc addr v).e = s.e := by
  cases loc <;> simp [State.writeLoc, State.writeCell]
@[simp] theorem State.memWrite_e (s : State) (addr : Word) (v : Byte) : (s.memWrite addr v).e = s.e := State.writeLoc_e ..
@[simp] theorem State.writeLoc_h (s : State) (loc : Loc) (addr : Word) (v : Byte) : (s.writeLoc loc addr v).h = s.h := by
  cases loc <;> simp [State.writeLoc, State.writeCell]
@[simp] theorem State.memWrite_h (s : State) (addr : Word) (v : Byte) : (s.memWrite addr v).h = s.h := State.writeLoc_h ..
@[simp] theorem State.writeLoc_l (s : State) (loc : Loc) (addr : Word) (v : Byte) : (s.writeLoc loc addr v).l = s.l := by
  cases loc <;> simp [State.writeLoc, State.writeCell]
@[simp] theorem State.memWrite_l (s : State) (addr : Word) (v : Byte) : (s.memWrite addr v).l = s.l := State.writeLoc_l ..
@[simp] theorem State.writeLoc_sp (s : State) (loc : Loc) (addr : Word) (v : Byte) : (s.writeLoc loc addr v).sp = s.sp := by
  cases loc <;> simp [State.writeLoc, State.writeCell]
@[simp] theorem State.memWrite_sp (s : State) (addr : Word) (v : Byte) : (s.memWrite addr v).sp = s.sp := State.writeLoc_sp ..
@[simp] theorem State.writeLoc_pc (s : State) (loc : Loc) (addr : Word) (v : Byte) : (s.writeLoc loc addr v).pc = s.pc := by
  cases loc <;> simp [State.writeLoc, State.writeCell]
@[simp] theorem State.memWrite_pc (s : State) (addr : Word) (v : Byte) : (s.memWrite addr v).pc = s.pc := State.writeLoc_pc ..
@[simp] theorem State.writeLoc_ime (s : State) (loc : Loc) (addr : Word) (v : Byte) : (s.writeLoc loc addr v).ime = s.ime := by
  cases loc <;> simp [State.writeLoc, State.writeCell]
@[simp] theorem State.memWrite_ime (s : State) (addr : Word) (v : Byte) : (s.memWrite addr v).ime = s.ime := State.writeLoc_ime ..
@[simp] theorem State.writeLoc_imePending (s : State) (loc : Loc) (addr : Word) (v : Byte) : (s.writeLoc loc addr v).imePending = s.imePending := by
  cases loc <;> simp [State.writeLoc, State.writeCell]
@[simp] theorem State.memWrite_imePending (s : State) (addr : Word) (v : Byte) : (s.memWrite addr v).imePending = s.imePending := State.writeLoc_imePending ..
@[simp] theorem State.writeLoc_run (s : State) (loc : Loc) (addr : Word) (v : Byte) : (s.writeLoc loc addr v).run = s.run := by
  cases loc <;> simp [State.writeLoc, State.writeCell]
@[simp] theorem State.memWrite_run (s : State) (addr : Word) (v : Byte) : (s.memWrite addr v).run = s.run := State.writeLoc_run ..
@[simp] theorem State.writeLoc_cycles (s : State) (loc : Loc) (addr : Word) (v : Byte) : (s.writeLoc loc addr v).cycles = s.cycles := by
  cases loc <;> simp [State.writeLoc, State.writeCell]
@[simp] theorem State.memWrite_cycles (s : State) (addr : Word) (v : Byte) : (s.memWrite addr v).cycles = s.cycles := State.writeLoc_cycles ..
@[simp] theorem State.writeLoc_romBanks (s : State) (loc : Loc) (addr : Word) (v : Byte) : (s.writeLoc loc addr v).romBanks = s.romBanks := by
  cases loc <;> simp [State.writeLoc, State.writeCell]
@[simp] theorem State.memWrite_romBanks (s : State) (addr : Word) (v : Byte) : (s.memWrite addr v).romBanks = s.romBanks := State.writeLoc_romBanks ..
@[simp] theorem State.writeLoc_ramBytes (s : State) (loc : Loc) (addr : Word) (v : Byte) : (s.writeLoc loc addr v).ramBytes = s.ramBytes := by
  cases loc <;> simp [State.writeLoc, State.writeCell]
@[simp] theorem State.memWrite_ramBytes (s : State) (addr : Word) (v : Byte) : (s.memWrite addr v).ramBytes = s.ramBytes := State.writeLoc_ramBytes ..
@[simp] theorem State.writeLoc_spaddFlags (s : State) (loc : Loc) (addr : Word) (v : Byte) : (s.writeLoc loc addr v).spaddFlags = s.spaddFlags := by
  cases loc <;> simp [State.writeLoc, State.writeCell]
@[simp] theorem State.memWrite_spaddFlags (s : State) (addr : Word) (v : Byte) : (s.memWrite addr v).spaddFlags = s.spaddFlags := State.writeLoc_spaddFlags ..
@[simp] theorem State.writeLoc_stopBehaviour (s : State) (loc : Loc) (addr : Word) (v : Byte) : (s.writeLoc loc addr v).stopBehaviour = s.stopBehaviour := by
  cases loc <;> simp [State.writeLoc, State.writeCell]
@[simp] theorem State.memWrite_stopBehaviour (s : State) (addr : Word) (v : Byte) : (s.memWrite addr v).stopBehaviour = s.stopBehaviour := State.writeLoc_stopBehaviour ..

@[simp] theorem State.setArray_array (s : State) (k j : ArrayId) (m : Mem) :
    (s.setArray k m).array j = if j = k then m else s.array j := by
  cases k <;> cases j <;> rfl


/-! ## Registers, pairs and flags after an update -/

@[simp] theorem State.reg_tick (s : State) (n : Nat) (r : Reg8) : (s.tick n).reg r = s.reg r := by cases r <;> rfl
@[simp] theorem State.reg_setF (s : State) (v : Byte) (r : Reg8) : (s.setF v).reg r = s.reg r := by cases r <;> rfl
@[simp] theorem State.reg_setFlags (s : State) (z n h c : Bool) (r : Reg8) :
    (s.setFlags z n h c).reg r = s.reg r := by cases r <;> rfl
@[simp] theorem State.reg_setReg (s : State) (x r : Reg8) (v : Byte) :
    (s.setReg x v).reg r = if r = x then v else s.reg r := by cases x <;> cases r <;> rfl
@[simp] theorem State.reg_noteRead (s : State) (addr : Word) (r : Reg8) : (s.noteRead addr).reg r = s.reg r := by
  cases r <;> simp [State.reg]
@[simp] theorem State.reg_memWrite (s : State) (addr : Word) (v : Byte) (r : Reg8) :
    (s.memWrite addr v).reg r = s.reg r := by cases r <;> simp [State.reg]
@[simp] theorem State.hl_tick (s : State) (n : Nat) : (s.tick n).hl = s.hl := rfl
@[simp] theorem State.hl_setF (s : State) (v : Byte) : (s.setF v).hl = s.hl := rfl
@[simp] theorem State.hl_setFlags (s : State) (z n h c : Bool) : (s.setFlags z n h c).hl = s.hl := rfl
@[simp] theorem State.hl_noteRead (s : State) (addr : Word) : (s.noteRead addr).hl = s.hl := by simp [State.hl]
@[simp] theorem State.hl_memWrite (s : State) (addr : Word) (v : Byte) : (s.memWrite addr v).hl = s.hl := by
  simp [State.hl]

@[simp] theorem hiByte_joinBytes (hi lo : Byte) : hiByte (joinBytes hi lo) = hi := by
  apply BitVec.eq_of_getLsbD_eq; intro i hi'
  simp only [hiByte, joinBytes, BitVec.getLsbD_extractLsb', BitVec.getLsbD_append]
  simp [hi']
@[simp] theorem loByte_joinBytes (hi lo : Byte) : loByte (joinBytes hi lo) = lo := by
  apply BitVec.eq_of_getLsbD_eq; intro i hi'
  simp only [loByte, joinBytes, BitVec.getLsbD_setWidth, BitVec.getLsbD_append]
  simp [hi']
@[simp] theorem joinBytes_hiByte_loByte (w : Word) : joinBytes (hiByte w) (loByte w) = w := by
  apply BitVec.eq_of_getLsbD_eq; intro i hi'
  simp only [hiByte, loByte, joinBytes, BitVec.getLsbD_setWidth, BitVec.getLsbD_append, BitVec.getLsbD_extractLsb']
  by_cases h : i < 8
  · simp [h]
  · have : i - 8 < 8 := by omega
    simp [h, this, show 8 + (i - 8) = i by omega]

/-- A pair reads back as it was written. -/
@[simp] theorem State.pair_setPair_self (s : State) (p : Pair) (v : Word) : (s.setPair p v).pair p = v := by
  cases p <;> simp [State.setPair, State.pair, State.bc, State.de, State.hl]

/-- The flags after `setFlags` are the ones given, and the low nibble of `F` is zero. -/
theorem flagsAre_setFlags (s : State) (z n h c : Bool) : FlagsAre (s.setFlags z n h c) z n h c := by
  cases z <;> cases n <;> cases h <;> cases c <;>
    simp [FlagsAre, State.flagZ, State.flagN, State.flagH, State.flagC, packFlags, bitAt]

/-- `FlagsAre` looks at `F` only. -/
theorem FlagsAre.congr {t u : State} {z n h c : Bool} (ht : FlagsAre t z n h c) (hf : u.f = t.f) : FlagsAre u z n h c := by
  simpa only [FlagsAre, State.flagZ, State.flagN, State.flagH, State.flagC, hf] using ht

@[simp] theorem flagsAre_tick (s : State) (k : Nat) (z n h c : Bool) :
    FlagsAre (s.tick k) z n h c ↔ FlagsAre s z n h c := Iff.rfl

end Sys2Proof.Machine
end

