-- ==== Sys2Proof/Laws/Memory.lean ====
section
/-! SUPPORT. The laws of a byte array: a read after a write, and that every operation keeps the canonical form. -/

namespace Sys2Proof

theorem memFind_memPut (m : Mem) (i j : Nat) (v : Byte) :
    memFind (memPut m i v) j = if j = i then some v else memFind m j := by
  induction m with
  | nil => simp [memPut, memFind, eq_comm]
  | cons x m ih =>
    unfold memPut
    split
    · simp [memFind, eq_comm]
    · split
      · subst_vars; simp only [memFind]; split <;> simp_all [eq_comm]
      · simp only [memFind, ih]; split <;> split <;> simp_all

/-- The head of an array, in front of which an index can stand. -/
theorem memWf_cons {x : Nat × Byte} {m : Mem} :
    memWf (x :: m) = true ↔ (∀ y ∈ m.head?, x.1 < y.1) ∧ memWf m = true := by
  cases m <;> simp [memWf]

theorem head_memPut {m : Mem} {i : Nat} {v : Byte} {y : Nat × Byte} (h : y ∈ (memPut m i v).head?) :
    y.1 = i ∨ y ∈ m.head? := by
  cases m with
  | nil => simp [memPut] at h; simp [← h]
  | cons x m =>
    unfold memPut at h
    split at h
    · simp at h; simp [← h]
    · split at h <;> simp at h <;> simp [← h]

theorem memWf_memPut {m : Mem} (h : memWf m = true) (i : Nat) (v : Byte) : memWf (memPut m i v) = true := by
  induction m with
  | nil => rfl
  | cons x m ih =>
    have hx := memWf_cons.mp h
    unfold memPut
    split
    · exact memWf_cons.mpr ⟨by simpa using ‹i < x.1›, h⟩
    · split
      · subst_vars; exact memWf_cons.mpr hx
      · refine memWf_cons.mpr ⟨fun y hy => ?_, ih hx.2⟩
        rcases head_memPut hy with hy | hy
        · omega
        · exact hx.1 y hy

theorem mem_memPut {m : Mem} {i : Nat} {v : Byte} {x : Nat × Byte} (h : x ∈ memPut m i v) :
    x = (i, v) ∨ x ∈ m := by
  induction m with
  | nil => simpa [memPut] using h
  | cons y m ih =>
    unfold memPut at h
    split at h
    · simpa using h
    · split at h
      · simp at h; rcases h with h | h <;> simp [h]
      · simp at h
        rcases h with h | h
        · simp [h]
        · rcases ih h with h | h <;> simp [h]

/-- A property of every entry is kept by listing an entry that has it. -/
theorem all_memPut {m : Mem} {p : Nat × Byte → Bool} (h : m.all p = true) {i : Nat} {v : Byte} (hp : p (i, v) = true) :
    (memPut m i v).all p = true := by
  rw [List.all_eq_true] at h ⊢
  intro x hx
  rcases mem_memPut hx with rfl | hx
  · exact hp
  · exact h x hx

theorem memBelow_memPut {n : Nat} {m : Mem} (h : memBelow n m = true) {i : Nat} (hi : i < n) (v : Byte) :
    memBelow n (memPut m i v) = true := all_memPut h (by simpa using hi)

theorem mem_memErase {m : Mem} {i : Nat} {x : Nat × Byte} (h : x ∈ memErase m i) : x ∈ m := by
  induction m with
  | nil => simp [memErase] at h
  | cons y m ih =>
    unfold memErase at h
    split at h
    · exact List.mem_cons_of_mem _ h
    · simp at h
      rcases h with h | h
      · simp [h]
      · exact List.mem_cons_of_mem _ (ih h)

/-- Every entry of a canonical array lies above its head. -/
theorem memWf_lt {x : Nat × Byte} {m : Mem} (h : memWf (x :: m) = true) {y : Nat × Byte} (hy : y ∈ m) : x.1 < y.1 := by
  induction m generalizing x with
  | nil => simp at hy
  | cons z m ih =>
    have hz := memWf_cons.mp h
    have hxz : x.1 < z.1 := hz.1 z (by simp)
    rcases List.mem_cons.mp hy with rfl | hy
    · exact hxz
    · exact hxz.trans (ih hz.2 hy)

theorem memWf_memErase {m : Mem} (h : memWf m = true) (i : Nat) : memWf (memErase m i) = true := by
  induction m with
  | nil => rfl
  | cons x m ih =>
    have hx := memWf_cons.mp h
    unfold memErase
    split
    · exact hx.2
    · refine memWf_cons.mpr ⟨fun y hy => ?_, ih hx.2⟩
      exact memWf_lt h (mem_memErase (List.mem_of_mem_head? hy))

namespace Machine

/-- Loading a byte into a ROM image keeps its canonical form. -/
theorem romWf_romPut {m : Mem} (h : romWf m = true) (i : Nat) (v : Byte) : romWf (romPut m i v) = true := by
  simp only [romWf, Bool.and_eq_true] at h ⊢
  unfold romPut
  split
  · refine ⟨memWf_memErase h.1 i, ?_⟩
    rw [List.all_eq_true] at h ⊢
    exact fun x hx => h.2 x (mem_memErase hx)
  · exact ⟨memWf_memPut h.1 i v, all_memPut h.2 (by simpa using ‹_›)⟩

theorem romOfImage_spec (image : List Byte) (i : Nat) :
    romWf (romOfImage i image) = true ∧ ∀ x ∈ romOfImage i image, i ≤ x.1 := by
  induction image generalizing i with
  | nil => simp [romOfImage, romWf, memWf]
  | cons v rest ih =>
    obtain ⟨h1, h2⟩ := ih (i + 1)
    unfold romOfImage
    split
    · exact ⟨h1, fun x hx => Nat.le_of_succ_le (h2 x hx)⟩
    · simp only [romWf, Bool.and_eq_true] at h1 ⊢
      refine ⟨⟨memWf_cons.mpr ⟨fun y hy => h2 y (List.mem_of_mem_head? hy), h1.1⟩, ?_⟩, ?_⟩
      · rw [List.all_cons, Bool.and_eq_true]
        exact ⟨by simpa using ‹¬ v = 0x00›, h1.2⟩
      · intro x hx
        rcases List.mem_cons.mp hx with rfl | hx
        · exact le_refl _
        · exact Nat.le_of_succ_le (h2 x hx)

/-- What a loaded image reads back as: the image's own byte. -/
theorem romOfImage_find (image : List Byte) (i j : Nat) :
    (memFind (romOfImage i image) j).getD 0 = if i ≤ j then image.getD (j - i) 0 else 0 := by
  induction image generalizing i with
  | nil => simp [romOfImage, memFind]
  | cons v rest ih =>
    unfold romOfImage
    split
    · by_cases hij : i = j
      · subst hij; simpa [*] using ih (i + 1)
      · rw [ih (i + 1)]
        by_cases hle : i ≤ j
        · obtain ⟨d, rfl⟩ := Nat.exists_eq_add_of_le (Nat.lt_of_le_of_ne hle hij)
          have e : i.succ + d - i = d + 1 := by omega
          simp [e, hle]
        · simp [hle, show ¬ i + 1 ≤ j by omega]
    · simp only [memFind]
      split
      · subst_vars; simp
      · rw [ih (i + 1)]
        by_cases hle : i ≤ j
        · obtain ⟨d, rfl⟩ := Nat.exists_eq_add_of_le (Nat.lt_of_le_of_ne hle ‹_›)
          have e : i.succ + d - i = d + 1 := by omega
          simp [e, hle]
        · simp [hle, show ¬ i + 1 ≤ j by omega]

/-- Reading one element after writing one. -/
theorem readCell_writeCell (s : State) (k : ArrayId) (i : Nat) (v : Byte) (k' : ArrayId) (i' : Nat) :
    (s.writeCell k i v).readCell k' i' = if k' = k ∧ i' = i then v else s.readCell k' i' := by
  unfold State.readCell State.writeCell
  rw [State.setArray_array]
  by_cases hk : k' = k
  · subst hk
    by_cases hi : i' = i <;> simp [memFind_memPut, hi]
  · simp [hk]

end Machine
end Sys2Proof
end

