-- ==== Sys2Proof/Laws/Bus.lean ====
section
/-! SUPPORT. The laws of the Bus: what a read or a write may depend on and change. -/

namespace Sys2Proof.Machine

/-! ## Where an address leads depends on the MBC and the build parameters only -/

theorem locate_congr {s t : State} (hm : t.mbc = s.mbc) (hb : t.romBanks = s.romBanks) (hr : t.ramBytes = s.ramBytes)
    (addr : Word) : t.locate addr = s.locate addr := by simp [State.locate, hm, hb, hr]

@[simp] theorem locate_tick (s : State) (n : Nat) (addr : Word) : (s.tick n).locate addr = s.locate addr := rfl
@[simp] theorem locate_setF (s : State) (v : Byte) (addr : Word) : (s.setF v).locate addr = s.locate addr := rfl
@[simp] theorem locate_setFlags (s : State) (z n h c : Bool) (addr : Word) :
    (s.setFlags z n h c).locate addr = s.locate addr := rfl
@[simp] theorem locate_setReg (s : State) (r : Reg8) (v : Byte) (addr : Word) :
    (s.setReg r v).locate addr = s.locate addr := locate_congr (by simp) (by simp) (by simp) addr
@[simp] theorem locate_setPair (s : State) (p : Pair) (v : Word) (addr : Word) :
    (s.setPair p v).locate addr = s.locate addr := locate_congr (by simp) (by simp) (by simp) addr
@[simp] theorem locate_noteRead (s : State) (x addr : Word) : (s.noteRead x).locate addr = s.locate addr :=
  locate_congr (by simp) (by simp) (by simp) addr

/-! ## What each range of the address space leads to -/

/-- The ranges of 20_memory.md R60 by their bounds. -/
theorem region_bounds (addr : Word) :
    (region addr = .romFixed ∧ addr.toNat < 0x4000) ∨
    (region addr = .romBanked ∧ 0x4000 ≤ addr.toNat ∧ addr.toNat < 0x8000) ∨
    (region addr = .vram ∧ 0x8000 ≤ addr.toNat ∧ addr.toNat < 0xA000) ∨
    (region addr = .cartRam ∧ 0xA000 ≤ addr.toNat ∧ addr.toNat < 0xC000) ∨
    (region addr = .wram0 ∧ 0xC000 ≤ addr.toNat ∧ addr.toNat < 0xD000) ∨
    (region addr = .wram1 ∧ 0xD000 ≤ addr.toNat ∧ addr.toNat < 0xE000) ∨
    (region addr = .echo ∧ 0xE000 ≤ addr.toNat ∧ addr.toNat < 0xFE00) ∨
    (region addr = .oam ∧ 0xFE00 ≤ addr.toNat ∧ addr.toNat < 0xFEA0) ∨
    (region addr = .unusable ∧ 0xFEA0 ≤ addr.toNat ∧ addr.toNat < 0xFF00) ∨
    (region addr = .ifPort ∧ addr.toNat = 0xFF0F) ∨
    (region addr = .port ∧ 0xFF00 ≤ addr.toNat ∧ addr.toNat < 0xFF80 ∧ addr.toNat ≠ 0xFF0F) ∨
    (region addr = .hram ∧ 0xFF80 ≤ addr.toNat ∧ addr.toNat < 0xFFFF) ∨
    (region addr = .iePort ∧ addr.toNat = 0xFFFF) := by
  have hlt := addr.isLt
  by_cases h0 : addr.toNat < 0x4000
  · simp [region, h0]
  by_cases h1 : addr.toNat < 0x8000
  · simp [region, h0, h1]; omega
  by_cases h2 : addr.toNat < 0xA000
  · simp [region, h0, h1, h2]; omega
  by_cases h3 : addr.toNat < 0xC000
  · simp [region, h0, h1, h2, h3]; omega
  by_cases h4 : addr.toNat < 0xD000
  · simp [region, h0, h1, h2, h3, h4]; omega
  by_cases h5 : addr.toNat < 0xE000
  · simp [region, h0, h1, h2, h3, h4, h5]; omega
  by_cases h6 : addr.toNat < 0xFE00
  · simp [region, h0, h1, h2, h3, h4, h5, h6]; omega
  by_cases h7 : addr.toNat < 0xFEA0
  · simp [region, h0, h1, h2, h3, h4, h5, h6, h7]; omega
  by_cases h8 : addr.toNat < 0xFF00
  · simp [region, h0, h1, h2, h3, h4, h5, h6, h7, h8]; omega
  by_cases h9 : addr.toNat = 0xFF0F
  · simp [region, h9]
  by_cases h10 : addr.toNat < 0xFF80
  · simp [region, h0, h1, h2, h3, h4, h5, h6, h7, h8, h9, h10]; omega
  by_cases h11 : addr.toNat < 0xFFFF
  · simp [region, h0, h1, h2, h3, h4, h5, h6, h7, h8, h9, h10, h11]; omega
  · simp [region, h0, h1, h2, h3, h4, h5, h6, h7, h8, h9, h10, h11]; omega

/-- Whether the variant is MBC2. -/
def Mbc.isMbc2 : Mbc → Bool
  | .none => false
  | .mbc1 _ _ _ _ => false
  | .mbc2 _ _ => true
  | .mbc3 _ _ _ => false

/-- What cartridge RAM leads to, and that its index is within its size. -/
theorem mbcRamLoc_cases (m : Mbc) (n : Nat) (addr : Word) :
    mbcRamLoc m n addr = .absent ∨
    (∃ i, mbcRamLoc m n addr = .nibble i ∧ i < 512 ∧ m.isMbc2 = true) ∨
    (∃ i, mbcRamLoc m n addr = .cell .cram i ∧ i < n ∧ m.isMbc2 = false) ∨
    (∃ i, mbcRamLoc m n addr = .cell .rtc i ∧ i < 5) := by
  have key : ∀ bank off, (m.isMbc2 = false) → cramLoc n bank off = .absent ∨
      ∃ i, cramLoc n bank off = .cell .cram i ∧ i < n ∧ m.isMbc2 = false := by
    intro bank off hm
    unfold cramLoc
    split
    · exact .inl rfl
    · exact .inr ⟨_, rfl, Nat.mod_lt _ (by omega), hm⟩
  cases m with
  | none => rcases key 0 (addr.toNat - 0xA000) rfl with h | ⟨i, h, x⟩ <;> simp [mbcRamLoc, h]; exact x
  | mbc1 en lo hi mode =>
    rcases key (if mode then hi.toNat else 0) (addr.toNat - 0xA000) rfl with h | ⟨i, h, x⟩ <;>
      cases en <;> simp only [mbcRamLoc, h] <;> simp
    exact x
  | mbc2 en bank => cases en <;> simp [mbcRamLoc, Mbc.isMbc2]; exact Nat.mod_lt _ (by omega)
  | mbc3 en bank sel =>
    by_cases h1 : sel.toNat ≤ 3
    · rcases key sel.toNat (addr.toNat - 0xA000) rfl with h | ⟨i, h, x⟩ <;>
        cases en <;> simp only [mbcRamLoc, h, h1] <;> simp
      exact x
    · by_cases h2 : 8 ≤ sel.toNat ∧ sel.toNat ≤ 12 <;> cases en <;> simp [mbcRamLoc, h1, h2]
      omega

/-- Where each address leads. -/
theorem locate_cases (s : State) (addr : Word) :
    (s.locate addr = .rom (romOffset s.mbc s.romBanks addr) ∧ addr.toNat < 0x8000) ∨
    0x8000 ≤ addr.toNat ∧
    (s.locate addr = .absent ∨
    (∃ i, s.locate addr = .nibble i ∧ i < 512 ∧ s.mbc.isMbc2 = true) ∨
    (∃ i, s.locate addr = .cell .vram i ∧ i < 8192) ∨ (∃ i, s.locate addr = .cell .wram0 i ∧ i < 4096) ∨
    (∃ i, s.locate addr = .cell .wram1 i ∧ i < 4096) ∨ (∃ i, s.locate addr = .cell .oam i ∧ i < 160) ∨
    (∃ i, s.locate addr = .cell .hram i ∧ i < 127) ∨
    (∃ i, s.locate addr = .cell .cram i ∧ i < s.ramBytes ∧ s.mbc.isMbc2 = false) ∨
    (∃ i, s.locate addr = .cell .rtc i ∧ i < 5) ∨
    s.locate addr = .unusable ∨ s.locate addr = .port ∨ s.locate addr = .ifPort ∨ s.locate addr = .iePort) := by
  have hw : ∀ n, 0xC000 ≤ n → n < 0xE000 →
      (∃ i, wramLoc n = .cell .wram0 i ∧ i < 4096) ∨ (∃ i, wramLoc n = .cell .wram1 i ∧ i < 4096) := by
    intro n h1 h2
    by_cases h : n < 0xD000 <;> simp [wramLoc, h]
    all_goals omega
  rcases region_bounds addr with ⟨h, b⟩ | ⟨h, b⟩ | ⟨h, b⟩ | ⟨h, b⟩ | ⟨h, b⟩ | ⟨h, b⟩ | ⟨h, b⟩ | ⟨h, b⟩ | ⟨h, b⟩ | ⟨h, b⟩ |
    ⟨h, b⟩ | ⟨h, b⟩ | ⟨h, b⟩
  · exact .inl ⟨by simp [State.locate, h], by omega⟩
  · exact .inl ⟨by simp [State.locate, h], by omega⟩
  · refine .inr ⟨by omega, ?_⟩; simp [State.locate, h]; omega
  · refine .inr ⟨by omega, ?_⟩
    rcases mbcRamLoc_cases s.mbc s.ramBytes addr with h' | h' | h' | h'
    · exact .inl (by simpa [State.locate, h] using h')
    · exact .inr (.inl (by simpa [State.locate, h] using h'))
    · obtain ⟨i, e, x⟩ := h'; simp [State.locate, h, e]; exact x
    · obtain ⟨i, e, x⟩ := h'; simp [State.locate, h, e]; exact x
  · refine .inr ⟨by omega, ?_⟩
    rcases hw addr.toNat (by omega) (by omega) with ⟨i, e, x⟩ | ⟨i, e, x⟩ <;> simp [State.locate, h, e, x]
  · refine .inr ⟨by omega, ?_⟩
    rcases hw addr.toNat (by omega) (by omega) with ⟨i, e, x⟩ | ⟨i, e, x⟩ <;> simp [State.locate, h, e, x]
  · refine .inr ⟨by omega, ?_⟩
    rcases hw (addr.toNat - 0x2000) (by omega) (by omega) with ⟨i, e, x⟩ | ⟨i, e, x⟩ <;> simp [State.locate, h, e, x]
  · refine .inr ⟨by omega, ?_⟩; simp [State.locate, h]; omega
  · refine .inr ⟨by omega, ?_⟩; simp [State.locate, h]
  · refine .inr ⟨by omega, ?_⟩; simp [State.locate, h]
  · refine .inr ⟨by omega, ?_⟩; simp [State.locate, h]
  · refine .inr ⟨by omega, ?_⟩; simp [State.locate, h]; omega
  · refine .inr ⟨by omega, ?_⟩; simp [State.locate, h]

/-- Only an address below 0x8000 leads into the ROM image. -/
theorem locate_eq_rom {s : State} {addr : Word} {off : Nat} (h : s.locate addr = .rom off) : addr.toNat < 0x8000 := by
  rcases locate_cases s addr with ⟨_, h'⟩ | ⟨_, h'⟩
  · exact h'
  · simp [h] at h'

/-- Where the Bus leads below 0x8000. -/
theorem locate_rom {s : State} {addr : Word} (h : addr.toNat < 0x8000) :
    s.locate addr = .rom (romOffset s.mbc s.romBanks addr) := by
  rcases locate_cases s addr with ⟨h', _⟩ | ⟨h', _⟩
  · exact h'
  · omega

/-- Only the port range leads to a port. -/
theorem locate_eq_port {s : State} {addr : Word} : s.locate addr = .port ↔ region addr = .port := by
  constructor
  · intro h
    rcases region_bounds addr with ⟨hr, b⟩ | ⟨hr, b⟩ | ⟨hr, b⟩ | ⟨hr, b⟩ | ⟨hr, b⟩ | ⟨hr, b⟩ | ⟨hr, b⟩ | ⟨hr, b⟩ | ⟨hr, b⟩ |
      ⟨hr, b⟩ | ⟨hr, b⟩ | ⟨hr, b⟩ | ⟨hr, b⟩ <;> try (first | exact hr | simp [State.locate, hr] at h; done)
    · rcases mbcRamLoc_cases s.mbc s.ramBytes addr with h' | ⟨i, h', _⟩ | ⟨i, h', _⟩ | ⟨i, h', _⟩ <;>
        simp [State.locate, hr, h'] at h
    · by_cases hn : addr.toNat < 0xD000 <;> simp [State.locate, hr, wramLoc, hn] at h
    · by_cases hn : addr.toNat < 0xD000 <;> simp [State.locate, hr, wramLoc, hn] at h
    · by_cases hn : addr.toNat - 0x2000 < 0xD000 <;> simp [State.locate, hr, wramLoc, hn] at h
  · intro h; simp [State.locate, h]

/-- The addresses of the ports, by number. -/
theorem locate_eq_port_iff (s : State) (addr : Word) :
    s.locate addr = .port ↔ 0xFF00 ≤ addr.toNat ∧ addr.toNat < 0xFF80 ∧ addr.toNat ≠ 0xFF0F := by
  rw [locate_eq_port]
  rcases region_bounds addr with ⟨hr, b⟩ | ⟨hr, b⟩ | ⟨hr, b⟩ | ⟨hr, b⟩ | ⟨hr, b⟩ | ⟨hr, b⟩ | ⟨hr, b⟩ | ⟨hr, b⟩ | ⟨hr, b⟩ |
    ⟨hr, b⟩ | ⟨hr, b⟩ | ⟨hr, b⟩ | ⟨hr, b⟩ <;> simp [hr] <;> omega

/-! ## A read -/

/-- A read of anything but a port depends on the arrays, the MBC, `IF` and `IE` only. -/
theorem readLoc_congr {s t : State} (ha : ∀ k, t.array k = s.array k) (hi : t.ifReg = s.ifReg) (he : t.ieReg = s.ieReg)
    {loc : Loc} (hl : loc ≠ .port) (addr : Word) : t.readLoc loc addr = s.readLoc loc addr := by
  cases loc <;> simp_all [State.readLoc, State.readCell]

theorem peek_congr {s t : State} (ha : ∀ k, t.array k = s.array k) (hi : t.ifReg = s.ifReg) (he : t.ieReg = s.ieReg)
    {addr : Word} (hl : t.locate addr = s.locate addr) (hp : s.locate addr ≠ .port) : t.peek addr = s.peek addr := by
  unfold State.peek
  rw [hl, readLoc_congr ha hi he hp]

/-- A state with the same arrays, MBC registers, `IF`, `IE` and build has the same memory. -/
theorem sameMemory_of {s t : State} (ha : ∀ k, t.array k = s.array k) (hm : t.mbc = s.mbc) (hi : t.ifReg = s.ifReg)
    (he : t.ieReg = s.ieReg) (hb : t.romBanks = s.romBanks) (hr : t.ramBytes = s.ramBytes) : SameMemory s t :=
  ⟨fun addr hp => peek_congr ha hi he (locate_congr hm hb hr addr) hp, ha, hm, hi, he⟩

@[simp] theorem array_tick (s : State) (n : Nat) (k : ArrayId) : (s.tick n).array k = s.array k := by cases k <;> rfl
@[simp] theorem array_setF (s : State) (v : Byte) (k : ArrayId) : (s.setF v).array k = s.array k := by cases k <;> rfl
@[simp] theorem array_setFlags (s : State) (z n h c : Bool) (k : ArrayId) :
    (s.setFlags z n h c).array k = s.array k := by cases k <;> rfl
@[simp] theorem array_setReg (s : State) (r : Reg8) (v : Byte) (k : ArrayId) :
    (s.setReg r v).array k = s.array k := by cases k <;> simp [State.array]
@[simp] theorem array_setPair (s : State) (p : Pair) (v : Word) (k : ArrayId) :
    (s.setPair p v).array k = s.array k := by cases k <;> simp [State.array]
@[simp] theorem array_noteRead (s : State) (addr : Word) (k : ArrayId) :
    (s.noteRead addr).array k = s.array k := by cases k <;> simp [State.array]

/-! ## A write -/

@[simp] theorem State.writeCell_mbc (s : State) (k : ArrayId) (i : Nat) (v : Byte) : (s.writeCell k i v).mbc = s.mbc := by
  simp [State.writeCell]
@[simp] theorem State.writeCell_ifReg (s : State) (k : ArrayId) (i : Nat) (v : Byte) :
    (s.writeCell k i v).ifReg = s.ifReg := by simp [State.writeCell]
@[simp] theorem State.writeCell_ieReg (s : State) (k : ArrayId) (i : Nat) (v : Byte) :
    (s.writeCell k i v).ieReg = s.ieReg := by simp [State.writeCell]
@[simp] theorem State.writeCell_ports (s : State) (k : ArrayId) (i : Nat) (v : Byte) :
    (s.writeCell k i v).ports = s.ports := by simp [State.writeCell]

/-- A write from 0x8000 up leaves every address leading where it led. -/
theorem locate_memWrite {s : State} {addr : Word} (h : 0x8000 ≤ addr.toNat) (v : Byte) (a : Word) :
    (s.memWrite addr v).locate a = s.locate a := by
  refine locate_congr ?_ (by simp) (by simp) a
  unfold State.memWrite
  have hn : ∀ off, s.locate addr ≠ .rom off := fun off h' => by have := locate_eq_rom h'; omega
  cases h' : s.locate addr <;> first | exact absurd h' (hn _) | simp [State.writeLoc]

@[simp] theorem State.envPort_ports (s : State) (x : PortEvent) : (s.envPort x).ports = x :: s.ports := rfl
@[simp] theorem State.envPort_inv (s : State) (x : PortEvent) : (s.envPort x).Inv ↔ s.Inv := Iff.rfl

@[simp] theorem locate_ports (s : State) (p : List PortEvent) (addr : Word) :
    { s with ports := p }.locate addr = s.locate addr := rfl

/-- MBC2's cells and the bytes of cartridge RAM never stand at addresses of one machine. -/
theorem not_nibble_and_cram {s : State} {a b : Word} {i j : Nat} (ha : s.locate a = .nibble i)
    (hb : s.locate b = .cell .cram j) : False := by
  have h1 : s.mbc.isMbc2 = true := by
    rcases locate_cases s a with ⟨h, _⟩ | ⟨_, h⟩ <;> simp_all
  have h2 : s.mbc.isMbc2 = false := by
    rcases locate_cases s b with ⟨h, _⟩ | ⟨_, h⟩ <;> simp_all
  simp [h1] at h2

/-- No address leads to a cell of the ROM image: that is `Loc.rom`. -/
theorem locate_ne_cell_rom (s : State) (a : Word) (i : Nat) : s.locate a ≠ .cell .rom i := by
  intro h
  rcases locate_cases s a with ⟨h', _⟩ | ⟨_, h'⟩ <;> simp_all

theorem nibble_or (v : Byte) : 0xF0#8 ||| (v &&& 0x0F#8) = 0xF0#8 ||| v := by
  apply BitVec.eq_of_getLsbD_eq; intro i hi
  simp only [BitVec.getLsbD_or, BitVec.getLsbD_and]
  have : i = 0 ∨ i = 1 ∨ i = 2 ∨ i = 3 ∨ i = 4 ∨ i = 5 ∨ i = 6 ∨ i = 7 := by omega
  rcases this with rfl | rfl | rfl | rfl | rfl | rfl | rfl | rfl <;> simp

/-- A write leaves the build parameters and the kind of controller alone. -/
theorem mbcControl_isMbc2 (m : Mbc) (addr : Word) (v : Byte) : (mbcControl m addr v).isMbc2 = m.isMbc2 := by
  cases m <;> simp only [mbcControl] <;> repeat' split
  all_goals rfl

/-- The MBC registers after a write. -/
theorem memWrite_mbc (s : State) (addr : Word) (v : Byte) :
    (s.memWrite addr v).mbc = if addr.toNat < 0x8000 then mbcControl s.mbc addr v else s.mbc := by
  unfold State.memWrite
  by_cases h : addr.toNat < 0x8000
  · simp [locate_rom h, h, State.writeLoc]
  · rw [if_neg h]
    cases h' : s.locate addr <;> first | exact absurd (locate_eq_rom h') h | simp [State.writeLoc]

/-- Every element of every array after a write. -/
theorem memWrite_readCell (s : State) (addr : Word) (v : Byte) (k : ArrayId) (i : Nat) :
    (s.memWrite addr v).readCell k i =
      if s.locate addr = .cell k i then v
      else if k = .cram ∧ s.locate addr = .nibble i then v &&& 0x0F
      else s.readCell k i := by
  unfold State.memWrite
  cases h : s.locate addr with
  | cell k' i' => simp [State.writeLoc, readCell_writeCell, and_comm, eq_comm]
  | nibble i' => simp [State.writeLoc, readCell_writeCell, eq_comm]
  | _ => simp [State.writeLoc, State.readCell, State.array]

/-- What `MemWrite(addr, 1, v)` does, whole: the spec lemma of a store. -/
theorem storedByte_memWrite (s : State) (addr : Word) (v : Byte) : StoredByte addr v s (s.memWrite addr v) := by
  refine ⟨memWrite_mbc s addr v, memWrite_readCell s addr v, ?_, ?_, ?_, ?_, ?_, ?_⟩
  · intro h a hp hd
    unfold State.peek
    rw [locate_memWrite h]
    have hrc := memWrite_readCell s addr v
    cases ha : s.locate a with
    | rom off =>
      simp only [State.readLoc, hrc]
      rw [if_neg (locate_ne_cell_rom s addr off)]
      simp
    | cell k i =>
      simp only [State.readLoc, hrc]
      have h1 : s.locate addr ≠ .cell k i := by
        rcases hd with hd | hd | hd
        · rw [← ha]; exact Ne.symm hd
        · simp [hd]
        · simp [hd]
      have h2 : ¬ (k = .cram ∧ s.locate addr = .nibble i) := by
        rintro ⟨rfl, hn⟩
        exact not_nibble_and_cram hn ha
      rw [if_neg h1, if_neg h2]
    | nibble i =>
      simp only [State.readLoc, hrc]
      have h1 : s.locate addr ≠ .cell .cram i := fun h => not_nibble_and_cram ha h
      have h2 : ¬ (True ∧ s.locate addr = .nibble i) := by
        rintro ⟨_, hn⟩
        rcases hd with hd | hd | hd <;> simp_all
      rw [if_neg h1, if_neg h2]
    | absent => rfl
    | unusable => rfl
    | port => exact absurd ha hp
    | ifPort =>
      unfold State.memWrite
      rcases hd with hd | hd | hd
      · cases h' : s.locate addr <;> simp_all [State.writeLoc, State.readLoc]
      · simp [hd, State.writeLoc]
      · simp [hd, State.writeLoc]
    | iePort =>
      unfold State.memWrite
      rcases hd with hd | hd | hd
      · cases h' : s.locate addr <;> simp_all [State.writeLoc, State.readLoc]
      · simp [hd, State.writeLoc]
      · simp [hd, State.writeLoc]
  · intro k i h
    have h8 : 0x8000 ≤ addr.toNat := by
      rcases locate_cases s addr with ⟨h', _⟩ | ⟨h', _⟩
      · simp [h'] at h
      · exact h'
    unfold State.peek
    rw [locate_memWrite h8, h]
    simp [State.readLoc, memWrite_readCell, h]
  · intro i h
    have h8 : 0x8000 ≤ addr.toNat := by
      rcases locate_cases s addr with ⟨h', _⟩ | ⟨h', _⟩
      · simp [h'] at h
      · exact h'
    unfold State.peek
    rw [locate_memWrite h8, h]
    simp [State.readLoc, memWrite_readCell, h, nibble_or]
  all_goals unfold State.memWrite; cases h' : s.locate addr <;> simp [State.writeLoc]

/-- Two states with the same memory behind the Bus. -/
structure SameBacking (t u : State) : Prop where
  array : ∀ k, u.array k = t.array k
  mbc : u.mbc = t.mbc
  ifReg : u.ifReg = t.ifReg
  ieReg : u.ieReg = t.ieReg
  ports : u.ports = t.ports
  romBanks : u.romBanks = t.romBanks
  ramBytes : u.ramBytes = t.ramBytes

/-- What a store does to memory is unchanged by a later change of anything but memory. -/
theorem StoredByte.congr {addr : Word} {v : Byte} {s t u : State} (h : StoredByte addr v s t) (hb : SameBacking t u)
    (hrom : t.romBanks = s.romBanks) (hram : t.ramBytes = s.ramBytes) : StoredByte addr v s u := by
  obtain ⟨h1, h2, h3, h4, h5, h6, h7, h8⟩ := h
  have hl : 0x8000 ≤ addr.toNat → ∀ a, t.locate a = s.locate a := fun hh a =>
    locate_congr (by rw [h1, if_neg (by omega)]) hrom hram a
  have hp : 0x8000 ≤ addr.toNat → ∀ a, s.locate a ≠ .port → u.peek a = t.peek a := fun hh a ha =>
    peek_congr hb.array hb.ifReg hb.ieReg (locate_congr hb.mbc hb.romBanks hb.ramBytes a) (by rw [hl hh]; exact ha)
  have h8k : (∃ k i, s.locate addr = .cell k i) ∨ (∃ i, s.locate addr = .nibble i) → 0x8000 ≤ addr.toNat := by
    intro hh
    rcases locate_cases s addr with ⟨h', _⟩ | ⟨h', _⟩
    · simp [h'] at hh
    · exact h'
  refine ⟨by rw [hb.mbc, h1], fun k i => ?_, fun hh a ha hd => ?_, fun k i hc => ?_, fun i hc => ?_, by rw [hb.ifReg, h6],
    by rw [hb.ieReg, h7], by rw [hb.ports, h8]⟩
  · rw [← h2 k i]; simp [State.readCell, hb.array]
  · rw [hp hh a ha, h3 hh a ha hd]
  · rw [hp (h8k (.inl ⟨k, i, hc⟩)) addr (by simp [hc]), h4 k i hc]
  · rw [hp (h8k (.inr ⟨i, hc⟩)) addr (by simp [hc]), h5 i hc]

/-! ## The invariant -/

/-- `memOk` without the match on the controller. -/
theorem memOk_iff (s : State) : s.memOk = true ↔
    (memWf s.vram = true ∧ memBelow 8192 s.vram = true) ∧ (memWf s.wram0 = true ∧ memBelow 4096 s.wram0 = true) ∧
    (memWf s.wram1 = true ∧ memBelow 4096 s.wram1 = true) ∧ (memWf s.oam = true ∧ memBelow 160 s.oam = true) ∧
    (memWf s.hram = true ∧ memBelow 127 s.hram = true) ∧
    (memWf s.cram = true ∧ memBelow (if s.mbc.isMbc2 then 512 else s.ramBytes) s.cram = true) ∧
    (memWf s.rtc = true ∧ memBelow 5 s.rtc = true) ∧ romWf s.rom = true ∧
    (s.mbc.isMbc2 = true → (s.cram.all fun x => decide (x.2.toNat < 16)) = true) := by
  unfold State.memOk State.cramSize
  cases h : s.mbc <;> simp only [Bool.and_eq_true, Mbc.isMbc2] <;> simp [and_assoc]

theorem lowNibble_lt (v : Byte) : (v &&& 0x0F#8).toNat < 16 := by
  rw [BitVec.toNat_and]
  exact Nat.lt_of_le_of_lt Nat.and_le_right (by decide)

/-- A Bus write keeps every array in canonical form and within its size. -/
theorem memOk_memWrite {s : State} (h : s.memOk = true) (addr : Word) (v : Byte) : (s.memWrite addr v).memOk = true := by
  rw [memOk_iff] at h ⊢
  obtain ⟨h1, h2, h3, h4, h5, h6, h7, h8, h9⟩ := h
  have hm : (s.memWrite addr v).mbc.isMbc2 = s.mbc.isMbc2 := by
    rw [memWrite_mbc]; split
    · exact mbcControl_isMbc2 ..
    · rfl
  rw [hm, State.memWrite_ramBytes]
  have put : ∀ {n m}, memWf m = true ∧ memBelow n m = true → ∀ {i}, i < n → ∀ x,
      memWf (memPut m i x) = true ∧ memBelow n (memPut m i x) = true :=
    fun hm _ hi x => ⟨memWf_memPut hm.1 _ _, memBelow_memPut hm.2 hi x⟩
  unfold State.memWrite
  rcases locate_cases s addr with ⟨h, _⟩ | ⟨_, h | ⟨i, h, hi, hx⟩ | ⟨i, h, hi⟩ | ⟨i, h, hi⟩ | ⟨i, h, hi⟩ | ⟨i, h, hi⟩ |
    ⟨i, h, hi⟩ | ⟨i, h, hi, hx⟩ | ⟨i, h, hi⟩ | h | h | h | h⟩ <;> rw [h]
  · exact ⟨h1, h2, h3, h4, h5, h6, h7, h8, h9⟩
  · exact ⟨h1, h2, h3, h4, h5, h6, h7, h8, h9⟩
  · refine ⟨h1, h2, h3, h4, h5, put h6 (by simpa [hx] using hi) _, h7, h8, fun _ => ?_⟩
    exact all_memPut (h9 hx) (by simpa using lowNibble_lt v)
  · exact ⟨put h1 hi _, h2, h3, h4, h5, h6, h7, h8, h9⟩
  · exact ⟨h1, put h2 hi _, h3, h4, h5, h6, h7, h8, h9⟩
  · exact ⟨h1, h2, put h3 hi _, h4, h5, h6, h7, h8, h9⟩
  · exact ⟨h1, h2, h3, put h4 hi _, h5, h6, h7, h8, h9⟩
  · exact ⟨h1, h2, h3, h4, put h5 hi _, h6, h7, h8, h9⟩
  · refine ⟨h1, h2, h3, h4, h5, put h6 (by simpa [hx] using hi) _, h7, h8, fun hm => ?_⟩
    simp [hx] at hm
  · exact ⟨h1, h2, h3, h4, h5, h6, put h7 hi _, h8, h9⟩
  · exact ⟨h1, h2, h3, h4, h5, h6, h7, h8, h9⟩
  · exact ⟨h1, h2, h3, h4, h5, h6, h7, h8, h9⟩
  · exact ⟨h1, h2, h3, h4, h5, h6, h7, h8, h9⟩
  · exact ⟨h1, h2, h3, h4, h5, h6, h7, h8, h9⟩

/-- `memOk` looks at the arrays, the kind of controller and `RAM_BYTES` only. -/
theorem memOk_congr {s t : State} (ha : ∀ k, t.array k = s.array k) (hm : t.mbc = s.mbc) (hr : t.ramBytes = s.ramBytes) :
    t.memOk = s.memOk := by
  have e1 := ha .vram; have e2 := ha .wram0; have e3 := ha .wram1; have e4 := ha .oam
  have e5 := ha .hram; have e6 := ha .cram; have e7 := ha .rtc; have e8 := ha .rom
  simp only [State.array] at e1 e2 e3 e4 e5 e6 e7 e8
  simp only [State.memOk, State.cramSize, e1, e2, e3, e4, e5, e6, e7, e8, hm, hr]

/-- The memory after reset is in canonical form. -/
theorem memOk_reset : State.reset.memOk = true := by decide

/-- The size of cartridge RAM, by the kind of controller. -/
theorem cramSize_eq (s : State) : s.cramSize = if mbcKind s.mbc = 2 then 512 else s.ramBytes := by
  unfold State.cramSize mbcKind
  cases s.mbc <;> rfl

/-- Everything a restore of one element of cartridge RAM does. -/
theorem restoreCart_eq (s : State) (i : Nat) (v : Byte) :
    s.restoreCart i v =
      if i < s.cramSize then s.writeCell .cram i (if mbcKind s.mbc = 2 then v &&& 0x0F else v) else s := by
  unfold State.restoreCart mbcKind
  split
  · cases s.mbc <;> rfl
  · rfl

/-- Restoring one element of cartridge RAM keeps the canonical form. -/
theorem memOk_restoreCart {s : State} (h : s.memOk = true) (i : Nat) (v : Byte) : (s.restoreCart i v).memOk = true := by
  have put : ∀ w : Byte, i < s.cramSize → (s.mbc.isMbc2 = true → w.toNat < 16) → (s.writeCell .cram i w).memOk = true := by
    intro w hi hw
    rw [memOk_iff] at h ⊢
    obtain ⟨h1, h2, h3, h4, h5, h6, h7, h8, h9⟩ := h
    refine ⟨h1, h2, h3, h4, h5, ⟨memWf_memPut h6.1 _ _, memBelow_memPut h6.2 ?_ _⟩, h7, h8, fun hm => ?_⟩
    · unfold State.cramSize at hi
      cases hmm : s.mbc <;> simp [hmm, Mbc.isMbc2] at hi ⊢ <;> exact hi
    · exact all_memPut (h9 hm) (by simpa using hw hm)
  rw [restoreCart_eq]
  split
  · refine put _ ‹_› fun hm => ?_
    rw [if_pos (by cases hk : s.mbc <;> simp_all [Mbc.isMbc2, mbcKind])]
    exact lowNibble_lt v
  · exact h

end Sys2Proof.Machine
end

