-- ==== Sys2Proof/Laws/Decode.lean ====
section
/-! SUPPORT. The format of an opcode, and the encoding of what is decoded, format by format. -/

namespace Sys2Proof

/-- What each format says of the opcode (30_encoding.md R131). -/
theorem opcodeFormat_cases (op : Byte) :
    (opcodeFormat op = .fcb ∧ op = 0xCB) ∨ (opcodeFormat op = .f1 ∧ op ∈ f1Opcodes) ∨
    (opcodeFormat op = .f2 ∧ op ∈ f2Opcodes) ∨
    (opcodeFormat op = .f0 ∧ op ≠ 0xCB ∧ op ∉ f1Opcodes ∧ op ∉ f2Opcodes) := by
  unfold opcodeFormat
  split
  · exact .inl ⟨rfl, ‹_›⟩
  · split
    · exact .inr (.inl ⟨rfl, ‹_›⟩)
    · split
      · exact .inr (.inr (.inl ⟨rfl, ‹_›⟩))
      · exact .inr (.inr (.inr ⟨rfl, ‹_›, ‹_›, ‹_›⟩))

theorem encode_decodePrimary_f0 : ∀ op : Byte, opcodeFormat op = .f0 → encode (decodePrimary op 0 0) = [op] := by decide

theorem encode_decodeSecondary : ∀ op2 : Byte, encode (decodeSecondary op2) = [0xCB, op2] := by decide

theorem encode_decodePrimary_f1 (n : Byte) {op : Byte} (h : op ∈ f1Opcodes) : encode (decodePrimary op n 0) = [op, n] := by
  simp only [f1Opcodes, List.mem_cons, List.not_mem_nil, or_false] at h
  rcases h with h | h | h | h | h | h | h | h | h | h | h | h | h | h | h | h | h | h | h | h | h | h | h | h | h <;>
    subst h <;> rfl

theorem encode_decodePrimary_f2 (lo hi : Byte) {op : Byte} (h : op ∈ f2Opcodes) :
    encode (decodePrimary op lo hi) = [op, lo, hi] := by
  simp only [f2Opcodes, List.mem_cons, List.not_mem_nil, or_false] at h
  rcases h with h | h | h | h | h | h | h | h | h | h | h | h | h | h | h | h | h <;> subst h
  all_goals
    show [_, loByte (joinBytes hi lo), hiByte (joinBytes hi lo)] = _
    rw [Machine.loByte_joinBytes, Machine.hiByte_joinBytes]

end Sys2Proof
end

