-- ==== Sys2Proof/Laws/Dispatch.lean ====
section
/-! SUPPORT. Every instruction belongs to one family, and what `exec` runs for a family: so a proof about all 511 instructions is one case per
family. -/

namespace Sys2Proof.Machine

/-- The families: one constructor per operand family of Decode.lean, one for each instruction that has no operand field. -/
inductive Family : Instr → Prop where
  | ld (x y : Reg8) : Family (mkLd x y)
  | ldImm (x : Reg8) (n : Byte) : Family (mkLdImm x n)
  | ldFromHL (x : Reg8) : Family (mkLdFromHL x)
  | ldToHL (x : Reg8) : Family (mkLdToHL x)
  | alu (op : AluOp) (x : Reg8) : Family (mkAlu op x)
  | aluHL (op : AluOp) : Family (mkAluHL op)
  | aluImm (op : AluOp) (n : Byte) : Family (mkAluImm op n)
  | inc (x : Reg8) : Family (mkInc x)
  | dec (x : Reg8) : Family (mkDec x)
  | ldPair (p : Pair) (nn : Word) : Family (mkLdPair p nn)
  | addHL (p : Pair) : Family (mkAddHL p)
  | incPair (p : Pair) : Family (mkIncPair p)
  | decPair (p : Pair) : Family (mkDecPair p)
  | push (q : StackPair) : Family (mkPush q)
  | pop (q : StackPair) : Family (mkPop q)
  | jpCond (cc : Cond) (nn : Word) : Family (mkJpCond cc nn)
  | jrCond (cc : Cond) (e : Byte) : Family (mkJrCond cc e)
  | callCond (cc : Cond) (nn : Word) : Family (mkCallCond cc nn)
  | retCond (cc : Cond) : Family (mkRetCond cc)
  | rst (t : Fin 8) : Family (mkRst t)
  | shift (k : ShiftOp) (x : Reg8) : Family (mkShift k x)
  | shiftHL (k : ShiftOp) : Family (mkShiftHL k)
  | bit (b : Fin 8) (x : Reg8) : Family (mkBit b x)
  | bitHL (b : Fin 8) : Family (mkBitHL b)
  | res (b : Fin 8) (x : Reg8) : Family (mkRes b x)
  | resHL (b : Fin 8) : Family (mkResHL b)
  | set (b : Fin 8) (x : Reg8) : Family (mkSet b x)
  | setHL (b : Fin 8) : Family (mkSetHL b)
  | ldAtAddrSP (nn : Word) : Family (.ldAtAddrSP nn)
  | jre (e : Byte) : Family (.jre e)
  | ldAtHLn (n : Byte) : Family (.ldAtHLn n)
  | jpnn (nn : Word) : Family (.jpnn nn)
  | callnn (nn : Word) : Family (.callnn nn)
  | ldhAtImmA (n : Byte) : Family (.ldhAtImmA n)
  | addSPe (e : Byte) : Family (.addSPe e)
  | ldAtAddrA (nn : Word) : Family (.ldAtAddrA nn)
  | ldhAAtImm (n : Byte) : Family (.ldhAAtImm n)
  | ldHLSPe (e : Byte) : Family (.ldHLSPe e)
  | ldAAtAddr (nn : Word) : Family (.ldAAtAddr nn)
  | nop : Family .nop
  | ldAtBCA : Family .ldAtBCA
  | rlca : Family .rlca
  | ldAAtBC : Family .ldAAtBC
  | rrca : Family .rrca
  | stop : Family .stop
  | ldAtDEA : Family .ldAtDEA
  | rla : Family .rla
  | ldAAtDE : Family .ldAAtDE
  | rra : Family .rra
  | ldAtHLIncA : Family .ldAtHLIncA
  | daa : Family .daa
  | ldAAtHLInc : Family .ldAAtHLInc
  | cpl : Family .cpl
  | ldAtHLDecA : Family .ldAtHLDecA
  | incAtHL : Family .incAtHL
  | decAtHL : Family .decAtHL
  | scf : Family .scf
  | ldAAtHLDec : Family .ldAAtHLDec
  | ccf : Family .ccf
  | halt : Family .halt
  | ret : Family .ret
  | illegalD3 : Family .illegalD3
  | reti : Family .reti
  | illegalDB : Family .illegalDB
  | illegalDD : Family .illegalDD
  | ldhAtCA : Family .ldhAtCA
  | illegalE3 : Family .illegalE3
  | illegalE4 : Family .illegalE4
  | jpHL : Family .jpHL
  | illegalEB : Family .illegalEB
  | illegalEC : Family .illegalEC
  | illegalED : Family .illegalED
  | ldhAAtC : Family .ldhAAtC
  | di : Family .di
  | illegalF4 : Family .illegalF4
  | ldSPHL : Family .ldSPHL
  | ei : Family .ei
  | illegalFC : Family .illegalFC
  | illegalFD : Family .illegalFD

/-- Every instruction is in a family. -/
theorem family (i : Instr) : Family i :=
  match i with
  | .ldBCnn nn => .ldPair .bc nn
  | .ldBn n => .ldImm .b n
  | .ldAtAddrSP nn => .ldAtAddrSP nn
  | .ldCn n => .ldImm .c n
  | .ldDEnn nn => .ldPair .de nn
  | .ldDn n => .ldImm .d n
  | .jre e => .jre e
  | .ldEn n => .ldImm .e n
  | .jrNZe e => .jrCond .nz e
  | .ldHLnn nn => .ldPair .hl nn
  | .ldHn n => .ldImm .h n
  | .jrZe e => .jrCond .z e
  | .ldLn n => .ldImm .l n
  | .jrNCe e => .jrCond .nc e
  | .ldSPnn nn => .ldPair .sp nn
  | .ldAtHLn n => .ldAtHLn n
  | .jrCe e => .jrCond .c e
  | .ldAn n => .ldImm .a n
  | .jpNZnn nn => .jpCond .nz nn
  | .jpnn nn => .jpnn nn
  | .callNZnn nn => .callCond .nz nn
  | .addAn n => .aluImm .add n
  | .jpZnn nn => .jpCond .z nn
  | .callZnn nn => .callCond .z nn
  | .callnn nn => .callnn nn
  | .adcAn n => .aluImm .adc n
  | .jpNCnn nn => .jpCond .nc nn
  | .callNCnn nn => .callCond .nc nn
  | .subn n => .aluImm .sub n
  | .jpCnn nn => .jpCond .c nn
  | .callCnn nn => .callCond .c nn
  | .sbcAn n => .aluImm .sbc n
  | .ldhAtImmA n => .ldhAtImmA n
  | .andn n => .aluImm .and n
  | .addSPe e => .addSPe e
  | .ldAtAddrA nn => .ldAtAddrA nn
  | .xorn n => .aluImm .xor n
  | .ldhAAtImm n => .ldhAAtImm n
  | .orn n => .aluImm .or n
  | .ldHLSPe e => .ldHLSPe e
  | .ldAAtAddr nn => .ldAAtAddr nn
  | .cpn n => .aluImm .cp n
  | .nop => .nop
  | .ldAtBCA => .ldAtBCA
  | .incBC => .incPair .bc
  | .incB => .inc .b
  | .decB => .dec .b
  | .rlca => .rlca
  | .addHLBC => .addHL .bc
  | .ldAAtBC => .ldAAtBC
  | .decBC => .decPair .bc
  | .incC => .inc .c
  | .decC => .dec .c
  | .rrca => .rrca
  | .stop => .stop
  | .ldAtDEA => .ldAtDEA
  | .incDE => .incPair .de
  | .incD => .inc .d
  | .decD => .dec .d
  | .rla => .rla
  | .addHLDE => .addHL .de
  | .ldAAtDE => .ldAAtDE
  | .decDE => .decPair .de
  | .incE => .inc .e
  | .decE => .dec .e
  | .rra => .rra
  | .ldAtHLIncA => .ldAtHLIncA
  | .incHL => .incPair .hl
  | .incH => .inc .h
  | .decH => .dec .h
  | .daa => .daa
  | .addHLHL => .addHL .hl
  | .ldAAtHLInc => .ldAAtHLInc
  | .decHL => .decPair .hl
  | .incL => .inc .l
  | .decL => .dec .l
  | .cpl => .cpl
  | .ldAtHLDecA => .ldAtHLDecA
  | .incSP => .incPair .sp
  | .incAtHL => .incAtHL
  | .decAtHL => .decAtHL
  | .scf => .scf
  | .addHLSP => .addHL .sp
  | .ldAAtHLDec => .ldAAtHLDec
  | .decSP => .decPair .sp
  | .incA => .inc .a
  | .decA => .dec .a
  | .ccf => .ccf
  | .ldBB => .ld .b .b
  | .ldBC => .ld .b .c
  | .ldBD => .ld .b .d
  | .ldBE => .ld .b .e
  | .ldBH => .ld .b .h
  | .ldBL => .ld .b .l
  | .ldBAtHL => .ldFromHL .b
  | .ldBA => .ld .b .a
  | .ldCB => .ld .c .b
  | .ldCC => .ld .c .c
  | .ldCD => .ld .c .d
  | .ldCE => .ld .c .e
  | .ldCH => .ld .c .h
  | .ldCL => .ld .c .l
  | .ldCAtHL => .ldFromHL .c
  | .ldCA => .ld .c .a
  | .ldDB => .ld .d .b
  | .ldDC => .ld .d .c
  | .ldDD => .ld .d .d
  | .ldDE => .ld .d .e
  | .ldDH => .ld .d .h
  | .ldDL => .ld .d .l
  | .ldDAtHL => .ldFromHL .d
  | .ldDA => .ld .d .a
  | .ldEB => .ld .e .b
  | .ldEC => .ld .e .c
  | .ldED => .ld .e .d
  | .ldEE => .ld .e .e
  | .ldEH => .ld .e .h
  | .ldEL => .ld .e .l
  | .ldEAtHL => .ldFromHL .e
  | .ldEA => .ld .e .a
  | .ldHB => .ld .h .b
  | .ldHC => .ld .h .c
  | .ldHD => .ld .h .d
  | .ldHE => .ld .h .e
  | .ldHH => .ld .h .h
  | .ldHL => .ld .h .l
  | .ldHAtHL => .ldFromHL .h
  | .ldHA => .ld .h .a
  | .ldLB => .ld .l .b
  | .ldLC => .ld .l .c
  | .ldLD => .ld .l .d
  | .ldLE => .ld .l .e
  | .ldLH => .ld .l .h
  | .ldLL => .ld .l .l
  | .ldLAtHL => .ldFromHL .l
  | .ldLA => .ld .l .a
  | .ldAtHLB => .ldToHL .b
  | .ldAtHLC => .ldToHL .c
  | .ldAtHLD => .ldToHL .d
  | .ldAtHLE => .ldToHL .e
  | .ldAtHLH => .ldToHL .h
  | .ldAtHLL => .ldToHL .l
  | .halt => .halt
  | .ldAtHLA => .ldToHL .a
  | .ldAB => .ld .a .b
  | .ldAC => .ld .a .c
  | .ldAD => .ld .a .d
  | .ldAE => .ld .a .e
  | .ldAH => .ld .a .h
  | .ldAL => .ld .a .l
  | .ldAAtHL => .ldFromHL .a
  | .ldAA => .ld .a .a
  | .addAB => .alu .add .b
  | .addAC => .alu .add .c
  | .addAD => .alu .add .d
  | .addAE => .alu .add .e
  | .addAH => .alu .add .h
  | .addAL => .alu .add .l
  | .addAAtHL => .aluHL .add
  | .addAA => .alu .add .a
  | .adcAB => .alu .adc .b
  | .adcAC => .alu .adc .c
  | .adcAD => .alu .adc .d
  | .adcAE => .alu .adc .e
  | .adcAH => .alu .adc .h
  | .adcAL => .alu .adc .l
  | .adcAAtHL => .aluHL .adc
  | .adcAA => .alu .adc .a
  | .subB => .alu .sub .b
  | .subC => .alu .sub .c
  | .subD => .alu .sub .d
  | .subE => .alu .sub .e
  | .subH => .alu .sub .h
  | .subL => .alu .sub .l
  | .subAtHL => .aluHL .sub
  | .subA => .alu .sub .a
  | .sbcAB => .alu .sbc .b
  | .sbcAC => .alu .sbc .c
  | .sbcAD => .alu .sbc .d
  | .sbcAE => .alu .sbc .e
  | .sbcAH => .alu .sbc .h
  | .sbcAL => .alu .sbc .l
  | .sbcAAtHL => .aluHL .sbc
  | .sbcAA => .alu .sbc .a
  | .andB => .alu .and .b
  | .andC => .alu .and .c
  | .andD => .alu .and .d
  | .andE => .alu .and .e
  | .andH => .alu .and .h
  | .andL => .alu .and .l
  | .andAtHL => .aluHL .and
  | .andA => .alu .and .a
  | .xorB => .alu .xor .b
  | .xorC => .alu .xor .c
  | .xorD => .alu .xor .d
  | .xorE => .alu .xor .e
  | .xorH => .alu .xor .h
  | .xorL => .alu .xor .l
  | .xorAtHL => .aluHL .xor
  | .xorA => .alu .xor .a
  | .orB => .alu .or .b
  | .orC => .alu .or .c
  | .orD => .alu .or .d
  | .orE => .alu .or .e
  | .orH => .alu .or .h
  | .orL => .alu .or .l
  | .orAtHL => .aluHL .or
  | .orA => .alu .or .a
  | .cpB => .alu .cp .b
  | .cpC => .alu .cp .c
  | .cpD => .alu .cp .d
  | .cpE => .alu .cp .e
  | .cpH => .alu .cp .h
  | .cpL => .alu .cp .l
  | .cpAtHL => .aluHL .cp
  | .cpA => .alu .cp .a
  | .retNZ => .retCond .nz
  | .popBC => .pop .bc
  | .pushBC => .push .bc
  | .rst00H => .rst 0
  | .retZ => .retCond .z
  | .ret => .ret
  | .rst08H => .rst 1
  | .retNC => .retCond .nc
  | .popDE => .pop .de
  | .illegalD3 => .illegalD3
  | .pushDE => .push .de
  | .rst10H => .rst 2
  | .retC => .retCond .c
  | .reti => .reti
  | .illegalDB => .illegalDB
  | .illegalDD => .illegalDD
  | .rst18H => .rst 3
  | .popHL => .pop .hl
  | .ldhAtCA => .ldhAtCA
  | .illegalE3 => .illegalE3
  | .illegalE4 => .illegalE4
  | .pushHL => .push .hl
  | .rst20H => .rst 4
  | .jpHL => .jpHL
  | .illegalEB => .illegalEB
  | .illegalEC => .illegalEC
  | .illegalED => .illegalED
  | .rst28H => .rst 5
  | .popAF => .pop .af
  | .ldhAAtC => .ldhAAtC
  | .di => .di
  | .illegalF4 => .illegalF4
  | .pushAF => .push .af
  | .rst30H => .rst 6
  | .ldSPHL => .ldSPHL
  | .ei => .ei
  | .illegalFC => .illegalFC
  | .illegalFD => .illegalFD
  | .rst38H => .rst 7
  | .rlcB => .shift .rlc .b
  | .rlcC => .shift .rlc .c
  | .rlcD => .shift .rlc .d
  | .rlcE => .shift .rlc .e
  | .rlcH => .shift .rlc .h
  | .rlcL => .shift .rlc .l
  | .rlcAtHL => .shiftHL .rlc
  | .rlcA => .shift .rlc .a
  | .rrcB => .shift .rrc .b
  | .rrcC => .shift .rrc .c
  | .rrcD => .shift .rrc .d
  | .rrcE => .shift .rrc .e
  | .rrcH => .shift .rrc .h
  | .rrcL => .shift .rrc .l
  | .rrcAtHL => .shiftHL .rrc
  | .rrcA => .shift .rrc .a
  | .rlB => .shift .rl .b
  | .rlC => .shift .rl .c
  | .rlD => .shift .rl .d
  | .rlE => .shift .rl .e
  | .rlH => .shift .rl .h
  | .rlL => .shift .rl .l
  | .rlAtHL => .shiftHL .rl
  | .rlA => .shift .rl .a
  | .rrB => .shift .rr .b
  | .rrC => .shift .rr .c
  | .rrD => .shift .rr .d
  | .rrE => .shift .rr .e
  | .rrH => .shift .rr .h
  | .rrL => .shift .rr .l
  | .rrAtHL => .shiftHL .rr
  | .rrA => .shift .rr .a
  | .slaB => .shift .sla .b
  | .slaC => .shift .sla .c
  | .slaD => .shift .sla .d
  | .slaE => .shift .sla .e
  | .slaH => .shift .sla .h
  | .slaL => .shift .sla .l
  | .slaAtHL => .shiftHL .sla
  | .slaA => .shift .sla .a
  | .sraB => .shift .sra .b
  | .sraC => .shift .sra .c
  | .sraD => .shift .sra .d
  | .sraE => .shift .sra .e
  | .sraH => .shift .sra .h
  | .sraL => .shift .sra .l
  | .sraAtHL => .shiftHL .sra
  | .sraA => .shift .sra .a
  | .swapB => .shift .swap .b
  | .swapC => .shift .swap .c
  | .swapD => .shift .swap .d
  | .swapE => .shift .swap .e
  | .swapH => .shift .swap .h
  | .swapL => .shift .swap .l
  | .swapAtHL => .shiftHL .swap
  | .swapA => .shift .swap .a
  | .srlB => .shift .srl .b
  | .srlC => .shift .srl .c
  | .srlD => .shift .srl .d
  | .srlE => .shift .srl .e
  | .srlH => .shift .srl .h
  | .srlL => .shift .srl .l
  | .srlAtHL => .shiftHL .srl
  | .srlA => .shift .srl .a
  | .bit0B => .bit 0 .b
  | .bit0C => .bit 0 .c
  | .bit0D => .bit 0 .d
  | .bit0E => .bit 0 .e
  | .bit0H => .bit 0 .h
  | .bit0L => .bit 0 .l
  | .bit0AtHL => .bitHL 0
  | .bit0A => .bit 0 .a
  | .bit1B => .bit 1 .b
  | .bit1C => .bit 1 .c
  | .bit1D => .bit 1 .d
  | .bit1E => .bit 1 .e
  | .bit1H => .bit 1 .h
  | .bit1L => .bit 1 .l
  | .bit1AtHL => .bitHL 1
  | .bit1A => .bit 1 .a
  | .bit2B => .bit 2 .b
  | .bit2C => .bit 2 .c
  | .bit2D => .bit 2 .d
  | .bit2E => .bit 2 .e
  | .bit2H => .bit 2 .h
  | .bit2L => .bit 2 .l
  | .bit2AtHL => .bitHL 2
  | .bit2A => .bit 2 .a
  | .bit3B => .bit 3 .b
  | .bit3C => .bit 3 .c
  | .bit3D => .bit 3 .d
  | .bit3E => .bit 3 .e
  | .bit3H => .bit 3 .h
  | .bit3L => .bit 3 .l
  | .bit3AtHL => .bitHL 3
  | .bit3A => .bit 3 .a
  | .bit4B => .bit 4 .b
  | .bit4C => .bit 4 .c
  | .bit4D => .bit 4 .d
  | .bit4E => .bit 4 .e
  | .bit4H => .bit 4 .h
  | .bit4L => .bit 4 .l
  | .bit4AtHL => .bitHL 4
  | .bit4A => .bit 4 .a
  | .bit5B => .bit 5 .b
  | .bit5C => .bit 5 .c
  | .bit5D => .bit 5 .d
  | .bit5E => .bit 5 .e
  | .bit5H => .bit 5 .h
  | .bit5L => .bit 5 .l
  | .bit5AtHL => .bitHL 5
  | .bit5A => .bit 5 .a
  | .bit6B => .bit 6 .b
  | .bit6C => .bit 6 .c
  | .bit6D => .bit 6 .d
  | .bit6E => .bit 6 .e
  | .bit6H => .bit 6 .h
  | .bit6L => .bit 6 .l
  | .bit6AtHL => .bitHL 6
  | .bit6A => .bit 6 .a
  | .bit7B => .bit 7 .b
  | .bit7C => .bit 7 .c
  | .bit7D => .bit 7 .d
  | .bit7E => .bit 7 .e
  | .bit7H => .bit 7 .h
  | .bit7L => .bit 7 .l
  | .bit7AtHL => .bitHL 7
  | .bit7A => .bit 7 .a
  | .res0B => .res 0 .b
  | .res0C => .res 0 .c
  | .res0D => .res 0 .d
  | .res0E => .res 0 .e
  | .res0H => .res 0 .h
  | .res0L => .res 0 .l
  | .res0AtHL => .resHL 0
  | .res0A => .res 0 .a
  | .res1B => .res 1 .b
  | .res1C => .res 1 .c
  | .res1D => .res 1 .d
  | .res1E => .res 1 .e
  | .res1H => .res 1 .h
  | .res1L => .res 1 .l
  | .res1AtHL => .resHL 1
  | .res1A => .res 1 .a
  | .res2B => .res 2 .b
  | .res2C => .res 2 .c
  | .res2D => .res 2 .d
  | .res2E => .res 2 .e
  | .res2H => .res 2 .h
  | .res2L => .res 2 .l
  | .res2AtHL => .resHL 2
  | .res2A => .res 2 .a
  | .res3B => .res 3 .b
  | .res3C => .res 3 .c
  | .res3D => .res 3 .d
  | .res3E => .res 3 .e
  | .res3H => .res 3 .h
  | .res3L => .res 3 .l
  | .res3AtHL => .resHL 3
  | .res3A => .res 3 .a
  | .res4B => .res 4 .b
  | .res4C => .res 4 .c
  | .res4D => .res 4 .d
  | .res4E => .res 4 .e
  | .res4H => .res 4 .h
  | .res4L => .res 4 .l
  | .res4AtHL => .resHL 4
  | .res4A => .res 4 .a
  | .res5B => .res 5 .b
  | .res5C => .res 5 .c
  | .res5D => .res 5 .d
  | .res5E => .res 5 .e
  | .res5H => .res 5 .h
  | .res5L => .res 5 .l
  | .res5AtHL => .resHL 5
  | .res5A => .res 5 .a
  | .res6B => .res 6 .b
  | .res6C => .res 6 .c
  | .res6D => .res 6 .d
  | .res6E => .res 6 .e
  | .res6H => .res 6 .h
  | .res6L => .res 6 .l
  | .res6AtHL => .resHL 6
  | .res6A => .res 6 .a
  | .res7B => .res 7 .b
  | .res7C => .res 7 .c
  | .res7D => .res 7 .d
  | .res7E => .res 7 .e
  | .res7H => .res 7 .h
  | .res7L => .res 7 .l
  | .res7AtHL => .resHL 7
  | .res7A => .res 7 .a
  | .set0B => .set 0 .b
  | .set0C => .set 0 .c
  | .set0D => .set 0 .d
  | .set0E => .set 0 .e
  | .set0H => .set 0 .h
  | .set0L => .set 0 .l
  | .set0AtHL => .setHL 0
  | .set0A => .set 0 .a
  | .set1B => .set 1 .b
  | .set1C => .set 1 .c
  | .set1D => .set 1 .d
  | .set1E => .set 1 .e
  | .set1H => .set 1 .h
  | .set1L => .set 1 .l
  | .set1AtHL => .setHL 1
  | .set1A => .set 1 .a
  | .set2B => .set 2 .b
  | .set2C => .set 2 .c
  | .set2D => .set 2 .d
  | .set2E => .set 2 .e
  | .set2H => .set 2 .h
  | .set2L => .set 2 .l
  | .set2AtHL => .setHL 2
  | .set2A => .set 2 .a
  | .set3B => .set 3 .b
  | .set3C => .set 3 .c
  | .set3D => .set 3 .d
  | .set3E => .set 3 .e
  | .set3H => .set 3 .h
  | .set3L => .set 3 .l
  | .set3AtHL => .setHL 3
  | .set3A => .set 3 .a
  | .set4B => .set 4 .b
  | .set4C => .set 4 .c
  | .set4D => .set 4 .d
  | .set4E => .set 4 .e
  | .set4H => .set 4 .h
  | .set4L => .set 4 .l
  | .set4AtHL => .setHL 4
  | .set4A => .set 4 .a
  | .set5B => .set 5 .b
  | .set5C => .set 5 .c
  | .set5D => .set 5 .d
  | .set5E => .set 5 .e
  | .set5H => .set 5 .h
  | .set5L => .set 5 .l
  | .set5AtHL => .setHL 5
  | .set5A => .set 5 .a
  | .set6B => .set 6 .b
  | .set6C => .set 6 .c
  | .set6D => .set 6 .d
  | .set6E => .set 6 .e
  | .set6H => .set 6 .h
  | .set6L => .set 6 .l
  | .set6AtHL => .setHL 6
  | .set6A => .set 6 .a
  | .set7B => .set 7 .b
  | .set7C => .set 7 .c
  | .set7D => .set 7 .d
  | .set7E => .set 7 .e
  | .set7H => .set 7 .h
  | .set7L => .set 7 .l
  | .set7AtHL => .setHL 7
  | .set7A => .set 7 .a

/-! ## What `exec` runs for each family -/

theorem exec_mkLd (x y : Reg8) (s : State) :
    exec (mkLd x y) s = .next (ldRegReg x y s) := by cases x <;> cases y <;> rfl

theorem exec_mkLdImm (x : Reg8) (n : Byte) (s : State) :
    exec (mkLdImm x n) s = .next (ldRegImm x n s) := by cases x <;> rfl

theorem exec_mkLdFromHL (x : Reg8) (s : State) :
    exec (mkLdFromHL x) s = .next (ldRegFromHL x s) := by cases x <;> rfl

theorem exec_mkLdToHL (x : Reg8) (s : State) :
    exec (mkLdToHL x) s = .next (ldHLFromReg x s) := by cases x <;> rfl

theorem exec_mkAlu (op : AluOp) (x : Reg8) (s : State) :
    exec (mkAlu op x) s = .next (aluReg op x s) := by cases op <;> cases x <;> rfl

theorem exec_mkAluHL (op : AluOp) (s : State) :
    exec (mkAluHL op) s = .next (aluHL op s) := by cases op <;> rfl

theorem exec_mkAluImm (op : AluOp) (n : Byte) (s : State) :
    exec (mkAluImm op n) s = .next (aluImm op n s) := by cases op <;> rfl

theorem exec_mkInc (x : Reg8) (s : State) :
    exec (mkInc x) s = .next (incReg x s) := by cases x <;> rfl

theorem exec_mkDec (x : Reg8) (s : State) :
    exec (mkDec x) s = .next (decReg x s) := by cases x <;> rfl

theorem exec_mkLdPair (p : Pair) (nn : Word) (s : State) :
    exec (mkLdPair p nn) s = .next (ldPairImm p nn s) := by cases p <;> rfl

theorem exec_mkAddHL (p : Pair) (s : State) :
    exec (mkAddHL p) s = .next (addHLPair p s) := by cases p <;> rfl

theorem exec_mkIncPair (p : Pair) (s : State) :
    exec (mkIncPair p) s = .next (incPair p s) := by cases p <;> rfl

theorem exec_mkDecPair (p : Pair) (s : State) :
    exec (mkDecPair p) s = .next (decPair p s) := by cases p <;> rfl

theorem exec_mkPush (q : StackPair) (s : State) :
    exec (mkPush q) s = .next (push q s) := by cases q <;> rfl

theorem exec_mkPop (q : StackPair) (s : State) :
    exec (mkPop q) s = .next (pop q s) := by cases q <;> rfl

theorem exec_mkJpCond (cc : Cond) (nn : Word) (s : State) :
    exec (mkJpCond cc nn) s = .next (jumpIf cc nn s) := by cases cc <;> rfl

theorem exec_mkJrCond (cc : Cond) (e : Byte) (s : State) :
    exec (mkJrCond cc e) s = .next (jumpRelIf cc e s) := by cases cc <;> rfl

theorem exec_mkCallCond (cc : Cond) (nn : Word) (s : State) :
    exec (mkCallCond cc nn) s = .next (callIf cc nn s) := by cases cc <;> rfl

theorem exec_mkRetCond (cc : Cond) (s : State) :
    exec (mkRetCond cc) s = .next (returnIf cc s) := by cases cc <;> rfl

theorem exec_mkRst (t : Fin 8) (s : State) :
    exec (mkRst t) s = .next (restart t s) := by fin_cases t <;> rfl

theorem exec_mkShift (k : ShiftOp) (x : Reg8) (s : State) :
    exec (mkShift k x) s = .next (shiftReg k x s) := by cases k <;> cases x <;> rfl

theorem exec_mkShiftHL (k : ShiftOp) (s : State) :
    exec (mkShiftHL k) s = .next (shiftHL k s) := by cases k <;> rfl

theorem exec_mkBit (b : Fin 8) (x : Reg8) (s : State) :
    exec (mkBit b x) s = .next (bitReg b x s) := by fin_cases b <;> cases x <;> rfl

theorem exec_mkBitHL (b : Fin 8) (s : State) :
    exec (mkBitHL b) s = .next (bitHL b s) := by fin_cases b <;> rfl

theorem exec_mkRes (b : Fin 8) (x : Reg8) (s : State) :
    exec (mkRes b x) s = .next (resReg b x s) := by fin_cases b <;> cases x <;> rfl

theorem exec_mkResHL (b : Fin 8) (s : State) :
    exec (mkResHL b) s = .next (resHL b s) := by fin_cases b <;> rfl

theorem exec_mkSet (b : Fin 8) (x : Reg8) (s : State) :
    exec (mkSet b x) s = .next (setBitReg b x s) := by fin_cases b <;> cases x <;> rfl

theorem exec_mkSetHL (b : Fin 8) (s : State) :
    exec (mkSetHL b) s = .next (setBitHL b s) := by fin_cases b <;> rfl

end Sys2Proof.Machine
end

