-- ==== Sys2Proof/Laws/Ops.lean ====
section
/-! SUPPORT. What the shared operations of Machine/Ops.lean do, one lemma each: stores, the stack, taking an interrupt, the phases of a step. -/

namespace Sys2Proof.Machine

@[simp] theorem State.memWrite_rom (s : State) (addr : Word) (v : Byte) : (s.memWrite addr v).rom = s.rom := by
  unfold State.memWrite
  cases h : s.locate addr <;> simp [State.writeLoc, State.writeCell, State.setArray]
  rename_i k i
  cases k <;> first | rfl | exact absurd h (locate_ne_cell_rom _ _ _)

@[simp] theorem hl_setPair (s : State) (v : Word) : (s.setPair .hl v).hl = v := State.pair_setPair_self s .hl v

theorem reg_setPair (s : State) (p : Pair) (v : Word) {r : Reg8} (h : r ∉ pairRegs p) : (s.setPair p v).reg r = s.reg r := by
  cases p <;> cases r <;> first | rfl | simp [pairRegs] at h

/-- Two states with the same backing memory see the same memory. -/
theorem SameBacking.sameMemory {s t : State} (h : SameBacking s t) : SameMemory s t :=
  sameMemory_of h.array h.mbc h.ifReg h.ieReg h.romBanks h.ramBytes

theorem sameMemory_noteRead (s : State) (addr : Word) : SameMemory s (s.noteRead addr) :=
  sameMemory_of (by simp) (by simp) (by simp) (by simp) (by simp) (by simp)

theorem SameMemory.trans_backing {s t u : State} (h : SameMemory s t) (hb : SameBacking t u)
    (h1 : t.romBanks = s.romBanks) (h2 : t.ramBytes = s.ramBytes) : SameMemory s u :=
  sameMemory_of (fun k => (hb.array k).trans (h.2.1 k)) (hb.mbc.trans h.2.2.1) (hb.ifReg.trans h.2.2.2.1)
    (hb.ieReg.trans h.2.2.2.2) (hb.romBanks.trans h1) (hb.ramBytes.trans h2)

/-! ## The stack -/

/-- A store does not look at `SP`. -/
theorem memWrite_setSp (s : State) (x addr : Word) (v : Byte) :
    { s with sp := x }.memWrite addr v = { s.memWrite addr v with sp := x } := by
  unfold State.memWrite
  rw [show State.locate { s with sp := x } addr = s.locate addr from rfl]
  cases s.locate addr <;> simp only [State.writeLoc, State.writeCell]
  all_goals try rfl
  all_goals rename_i k _; cases k <;> rfl

/-- `Push16(v)` as two stores and `SP` (00_scope.md R12). -/
theorem push16_eq (s : State) (v : Word) :
    s.push16 v = { (s.memWrite (s.sp - 1) (hiByte v)).memWrite (s.sp - 2) (loByte v) with sp := s.sp - 2 } := by
  unfold State.push16
  simp only [memWrite_setSp]

/-- `Push16(v)`, whole. -/
theorem pushedWord_push16 (s : State) (v : Word) : PushedWord v s (s.push16 v) := by
  rw [push16_eq]
  refine ⟨rfl, storedByte_memWrite .., (storedByte_memWrite ..).congr ?_ (by simp) (by simp)⟩
  exact ⟨fun k => by cases k <;> rfl, rfl, rfl, rfl, rfl, rfl, rfl⟩

/-- A later change of anything but memory and `SP` keeps what a push did. -/
theorem PushedWord.congr {v : Word} {s t u : State} (h : PushedWord v s t) (hb : SameBacking t u) (hsp : u.sp = t.sp)
    (h1 : t.romBanks = s.romBanks) (h2 : t.ramBytes = s.ramBytes) : PushedWord v s u :=
  ⟨hsp.trans h.1, h.2.1, h.2.2.congr hb (by simp [h1]) (by simp [h2])⟩

/-- What a push leaves alone. -/
theorem push16_frame (s : State) (v : Word) :
    (∀ r, (s.push16 v).reg r = s.reg r) ∧ (s.push16 v).f = s.f ∧ (s.push16 v).pc = s.pc ∧ SameInterrupts s (s.push16 v) ∧
    SameBuild s (s.push16 v) ∧ (s.push16 v).cycles = s.cycles := by
  rw [push16_eq]
  simp only [SameInterrupts, SameBuild, State.memWrite_f, State.memWrite_pc, State.memWrite_ime, State.memWrite_imePending,
    State.memWrite_run, State.memWrite_rom, State.memWrite_romBanks, State.memWrite_ramBytes, State.memWrite_spaddFlags,
    State.memWrite_stopBehaviour, State.memWrite_cycles, and_self, and_true]
  intro r
  cases r <;> simp [State.reg]

/-- `Pop16()`, whole: the word, and the state after it. -/
theorem pop16_eq (s : State) :
    s.pop16 = (joinBytes ((s.noteRead s.sp).peek (s.sp + 1)) (s.peek s.sp),
      { (s.noteRead s.sp).noteRead (s.sp + 1) with sp := s.sp + 2 }) := by
  simp only [State.pop16, State.memRead]

theorem poppedWord_pop16 (s : State) : PoppedWord s.pop16.1 s s.pop16.2 := by
  rw [pop16_eq]
  refine ⟨rfl, by simp, by simp, sameMemory_of (fun k => ?_) ?_ ?_ ?_ ?_ ?_, ?_⟩
  · cases k <;> simp [State.array]
  all_goals first | simp; done | simp [State.noteRead_ports]

theorem PoppedWord.congr {v : Word} {s t u : State} (h : PoppedWord v s t) (hb : SameBacking t u) (hsp : u.sp = t.sp)
    (h1 : t.romBanks = s.romBanks) (h2 : t.ramBytes = s.ramBytes) : PoppedWord v s u :=
  ⟨hsp.trans h.1, h.2.1, h.2.2.1, h.2.2.2.1.trans_backing hb h1 h2, hb.ports.trans h.2.2.2.2⟩

/-- What a pop leaves alone. -/
theorem pop16_frame (s : State) :
    (∀ r, s.pop16.2.reg r = s.reg r) ∧ s.pop16.2.f = s.f ∧ s.pop16.2.pc = s.pc ∧ SameInterrupts s s.pop16.2 ∧
    SameBuild s s.pop16.2 ∧ s.pop16.2.cycles = s.cycles := by
  rw [pop16_eq]
  simp only [SameInterrupts, SameBuild, State.noteRead_f, State.noteRead_pc, State.noteRead_ime, State.noteRead_imePending,
    State.noteRead_run, State.noteRead_rom, State.noteRead_romBanks, State.noteRead_ramBytes, State.noteRead_spaddFlags,
    State.noteRead_stopBehaviour, State.noteRead_cycles, and_self, and_true]
  intro r
  cases r <;> simp [State.reg]

/-! ## The invariant over the shared operations -/

theorem memOk_noteRead {s : State} (h : s.memOk = true) (addr : Word) : (s.noteRead addr).memOk = true := by
  rw [memOk_congr (s := s) (by simp) (by simp) (by simp)]; exact h

theorem memOk_push16 {s : State} (h : s.memOk = true) (v : Word) : (s.push16 v).memOk = true := by
  rw [push16_eq]
  exact (memOk_congr (s := (s.memWrite (s.sp - 1) (hiByte v)).memWrite (s.sp - 2) (loByte v))
    (fun k => by cases k <;> rfl) rfl rfl).trans (memOk_memWrite (memOk_memWrite h _ _) _ _)

theorem memOk_pop16 {s : State} (h : s.memOk = true) : s.pop16.2.memOk = true := by
  rw [pop16_eq]
  exact (memOk_congr (s := (s.noteRead s.sp).noteRead (s.sp + 1)) (fun k => by cases k <;> rfl) rfl rfl).trans
    (memOk_noteRead (memOk_noteRead h _) _)

theorem setF_low (s : State) (v : Byte) : (s.setF v).f &&& 0x0F = 0 := by
  apply BitVec.eq_of_getLsbD_eq
  intro i hi
  have : i = 0 ∨ i = 1 ∨ i = 2 ∨ i = 3 ∨ i = 4 ∨ i = 5 ∨ i = 6 ∨ i = 7 := by omega
  rcases this with rfl | rfl | rfl | rfl | rfl | rfl | rfl | rfl <;> simp [State.setF]

/-! ## Fetching -/

/-- One fetch: the byte at `PC`, and `PC` past it. -/
theorem fetch8_eq (s : State) : s.fetch8 = (s.peek s.pc, { s.noteRead s.pc with pc := s.pc + 1 }) := rfl

/-- What a fetch changes: `PC`, and the port record where the byte came from a port. -/
theorem fetch8_state (s : State) : s.fetch8.2 = { s with pc := s.pc + 1, ports := portsAfterRead s s.pc } := by
  rw [fetch8_eq]
  unfold State.noteRead portsAfterRead
  split <;> simp_all

/-- The port record after one byte was fetched and then `n` more. -/
theorem portsAfterFetch_succ (s : State) (n : Nat) : portsAfterFetch s.fetch8.2 n = portsAfterFetch s (n + 1) := by
  induction n with
  | zero => rw [fetch8_state]; simp [portsAfterFetch]
  | succ n ih =>
    have hpc : s.pc + 1 + BitVec.ofNat 16 n = s.pc + BitVec.ofNat 16 (n + 1) := by bv_omega
    show portsAfterRead { s.fetch8.2 with ports := portsAfterFetch s.fetch8.2 n } (s.fetch8.2.pc + BitVec.ofNat 16 n) =
      portsAfterRead { s with ports := portsAfterFetch s (n + 1) } (s.pc + BitVec.ofNat 16 (n + 1))
    rw [ih, ← hpc, fetch8_state]
    rfl

/-- Everything fetching `n` bytes does: `PC` moves past them, each port among them is asked once, and each byte is what a read of
its address gives when its turn comes. -/
theorem fetchBytes_spec (s : State) (n : Nat) :
    (s.fetchBytes n).2 = { s with pc := s.pc + BitVec.ofNat 16 n, ports := portsAfterFetch s n } ∧
    (s.fetchBytes n).1.length = n ∧
    ∀ k < n, (s.fetchBytes n).1[k]? = some (State.peek { s with ports := portsAfterFetch s k } (s.pc + BitVec.ofNat 16 k)) := by
  induction n generalizing s with
  | zero => simp [State.fetchBytes, portsAfterFetch]
  | succ n ih =>
    have hpc : ∀ k, s.pc + 1 + BitVec.ofNat 16 k = s.pc + BitVec.ofNat 16 (k + 1) := fun k => by bv_omega
    obtain ⟨h1, h2, h3⟩ := ih s.fetch8.2
    refine ⟨?_, by simp [State.fetchBytes, h2], fun k hk => ?_⟩
    · rw [State.fetchBytes, h1, portsAfterFetch_succ, fetch8_state, ← hpc]
    · cases k with
      | zero => simp [State.fetchBytes, portsAfterFetch, fetch8_eq]
      | succ k =>
        rw [State.fetchBytes, List.getElem?_cons_succ, h3 k (by omega), portsAfterFetch_succ, fetch8_state, ← hpc]
        rfl

/-- What fetching a whole instruction changes. -/
theorem fetchInstr_state (s : State) : ∃ n p, s.fetchInstr.2 = { s with pc := n, ports := p } := by
  unfold State.fetchInstr
  cases h : opcodeFormat s.fetch8.1 <;> simp only [h, fetch8_state] <;> exact ⟨_, _, rfl⟩

/-! ## The phases of a step -/

/-- The phases of a step before its execute phase, all cases (60_exceptions.md R400). -/
theorem boundary_cases (s : State) :
    (s.ime = true ∧ s.pending ≠ 0 ∧ s.boundary = .finished (s.wake.takeInterrupt (lowestSet s.pending))) ∨
    (s.run = .halted ∧ s.pending = 0 ∧ s.boundary = .finished (s.tick 4)) ∨
    (¬ (s.ime = true ∧ s.pending ≠ 0) ∧ (s.run = .halted → s.pending ≠ 0) ∧
      s.boundary = .execute { s with run := .running, ime := s.ime || s.imePending, imePending := false }) := by
  by_cases h1 : s.ime = true ∧ s.pending ≠ 0
  · exact .inl ⟨h1.1, h1.2, by rw [State.boundary, if_pos h1]⟩
  · rw [State.boundary, if_neg h1]
    by_cases h2 : s.run = .halted
    · by_cases h3 : s.pending = 0
      · have hw : s.wake = s := by simp [State.wake, h3]
        exact .inr (.inl ⟨h2, h3, by rw [hw, if_pos h2]⟩)
      · have hw : s.wake = { s with run := .running } := by rw [State.wake, if_pos ⟨h2, h3⟩]
        refine .inr (.inr ⟨h1, fun _ => h3, ?_⟩)
        rw [hw, if_neg (by simp), State.consumeOneShot]
        cases h : s.imePending <;> simp
    · have h2' : s.run = .running := by cases h : s.run <;> simp_all
      have hw : s.wake = s := by simp [State.wake, h2]
      refine .inr (.inr ⟨h1, fun h => absurd h h2, ?_⟩)
      rw [hw, if_neg h2, State.consumeOneShot]
      cases h : s.imePending <;> cases s <;> simp_all

end Sys2Proof.Machine
end

