-- ==== Sys2Proof/Laws/Exec.lean ====
section
/-! SUPPORT. What executing any one instruction may do to the invariant, the cartridge, the interrupt state and the cycle count: one case per family
of Laws/Dispatch.lean. -/

namespace Sys2Proof.Machine

/-- A part of an instruction's effect that keeps the invariant's clauses, the cartridge and the interrupt state. -/
structure Keeps (s t : State) : Prop where
  low : s.f &&& 0x0F = 0 → t.f &&& 0x0F = 0
  mem : s.memOk = true → t.memOk = true
  build : SameBuild s t
  kind : mbcKind t.mbc = mbcKind s.mbc
  int : SameInterrupts s t

/-- A change of registers other than `F` only. -/
theorem Keeps.of_registers {s t : State} (hf : t.f = s.f) (ha : ∀ k, t.array k = s.array k) (hm : t.mbc = s.mbc)
    (hb : SameBuild s t) (hi : SameInterrupts s t) : Keeps s t :=
  ⟨fun h => by rw [hf]; exact h, fun h => by rw [memOk_congr ha hm hb.2.2.1]; exact h, hb, by rw [hm], hi⟩

theorem Keeps.refl (s : State) : Keeps s s :=
  .of_registers rfl (fun _ => rfl) rfl ⟨rfl, rfl, rfl, rfl, rfl⟩ ⟨rfl, rfl, rfl⟩

theorem Keeps.trans {s t u : State} (h : Keeps s t) (k : Keeps t u) : Keeps s u := by
  obtain ⟨a1, a2, ⟨b1, b2, b3, b4, b5⟩, a4, ⟨c1, c2, c3⟩⟩ := h
  obtain ⟨a1', a2', ⟨b1', b2', b3', b4', b5'⟩, a4', ⟨c1', c2', c3'⟩⟩ := k
  exact ⟨a1' ∘ a1, a2' ∘ a2, ⟨b1'.trans b1, b2'.trans b2, b3'.trans b3, b4'.trans b4, b5'.trans b5⟩, a4'.trans a4,
    ⟨c1'.trans c1, c2'.trans c2, c3'.trans c3⟩⟩

theorem Keeps.tick {s t : State} (h : Keeps s t) (n : Nat) : Keeps s (t.tick n) :=
  h.trans (.of_registers rfl (fun _ => rfl) rfl ⟨rfl, rfl, rfl, rfl, rfl⟩ ⟨rfl, rfl, rfl⟩)

theorem Keeps.pc {s t : State} (h : Keeps s t) (x : Word) : Keeps s { t with pc := x } :=
  h.trans (.of_registers rfl (fun k => by cases k <;> rfl) rfl ⟨rfl, rfl, rfl, rfl, rfl⟩ ⟨rfl, rfl, rfl⟩)

theorem Keeps.sp {s t : State} (h : Keeps s t) (x : Word) : Keeps s { t with sp := x } :=
  h.trans (.of_registers rfl (fun k => by cases k <;> rfl) rfl ⟨rfl, rfl, rfl, rfl, rfl⟩ ⟨rfl, rfl, rfl⟩)

theorem Keeps.a {s t : State} (h : Keeps s t) (x : Byte) : Keeps s { t with a := x } :=
  h.trans (.of_registers rfl (fun k => by cases k <;> rfl) rfl ⟨rfl, rfl, rfl, rfl, rfl⟩ ⟨rfl, rfl, rfl⟩)

theorem Keeps.setF {s t : State} (h : Keeps s t) (v : Byte) : Keeps s (t.setF v) :=
  h.trans ⟨fun _ => setF_low .., fun hm => (memOk_congr (s := t) (fun k => by cases k <;> rfl) rfl rfl).trans hm,
    ⟨rfl, rfl, rfl, rfl, rfl⟩, rfl, ⟨rfl, rfl, rfl⟩⟩

theorem Keeps.setFlags {s t : State} (h : Keeps s t) (z n hc c : Bool) : Keeps s (t.setFlags z n hc c) := h.setF _

theorem Keeps.setReg {s t : State} (h : Keeps s t) (r : Reg8) (v : Byte) : Keeps s (t.setReg r v) :=
  h.trans (.of_registers (by simp) (fun k => by cases r <;> cases k <;> rfl) (by simp) ⟨by simp, by simp, by simp, by simp, by simp⟩
    ⟨by simp, by simp, by simp⟩)

theorem Keeps.setPair {s t : State} (h : Keeps s t) (p : Pair) (v : Word) : Keeps s (t.setPair p v) :=
  h.trans (.of_registers (by simp) (fun k => by cases p <;> cases k <;> rfl) (by simp) ⟨by simp, by simp, by simp, by simp, by simp⟩
    ⟨by simp, by simp, by simp⟩)

theorem Keeps.setStackPair {s t : State} (h : Keeps s t) (q : StackPair) (v : Word) : Keeps s (t.setStackPair q v) := by
  cases q
  · exact h.setPair .bc v
  · exact h.setPair .de v
  · exact h.setPair .hl v
  · exact (h.a _).setF _

theorem Keeps.noteRead {s t : State} (h : Keeps s t) (addr : Word) : Keeps s (t.noteRead addr) :=
  h.trans (.of_registers (by simp) (fun k => by simp) (by simp) ⟨by simp, by simp, by simp, by simp, by simp⟩
    ⟨by simp, by simp, by simp⟩)

theorem mbcKind_mbcControl (m : Mbc) (addr : Word) (v : Byte) : mbcKind (mbcControl m addr v) = mbcKind m := by
  cases m <;> simp only [mbcControl]
  all_goals repeat' split
  all_goals rfl

theorem Keeps.memWrite {s t : State} (h : Keeps s t) (addr : Word) (v : Byte) : Keeps s (t.memWrite addr v) := by
  refine h.trans ⟨fun hl => by simpa using hl, fun hm => memOk_memWrite hm _ _, ⟨by simp, by simp, by simp, by simp, by simp⟩, ?_,
    ⟨by simp, by simp, by simp⟩⟩
  rw [memWrite_mbc]
  split
  · exact mbcKind_mbcControl ..
  · rfl

theorem Keeps.push16 {s t : State} (h : Keeps s t) (v : Word) : Keeps s (t.push16 v) := by
  rw [push16_eq]; exact ((h.memWrite _ _).memWrite _ _).sp _

theorem Keeps.pop16 {s t : State} (h : Keeps s t) : Keeps s t.pop16.2 := by
  rw [pop16_eq]; exact ((h.noteRead _).noteRead _).sp _

theorem Keeps.busAccesses {s t : State} (h : Keeps s t) (xs : List BusAccess) : Keeps s (t.busAccesses xs) := by
  induction xs generalizing t with
  | nil => exact h
  | cons x xs ih => cases x with
    | read addr => exact ih (h.noteRead addr)
    | write addr v => exact ih (h.memWrite addr v)

theorem Keeps.setAlu {s t : State} (h : Keeps s t) (op : AluOp) (r : AluRes) : Keeps s (t.setAlu op r) := by
  cases op <;> exact (h.a _).setFlags ..

theorem setAlu_cycles (s : State) (op : AluOp) (r : AluRes) : (s.setAlu op r).cycles = s.cycles := by cases op <;> rfl

theorem setStackPair_cycles (s : State) (q : StackPair) (v : Word) : (s.setStackPair q v).cycles = s.cycles := by cases q <;> rfl

@[simp] theorem busAccesses_cycles (s : State) (xs : List BusAccess) : (s.busAccesses xs).cycles = s.cycles := by
  induction xs generalizing s with
  | nil => rfl
  | cons x xs ih => cases x <;> exact (ih _).trans (by simp [State.busAccess, State.memRead])

/-- What a step function for `STOP` leaves, whichever it is: the invariant's clauses, the cartridge, and no armed one-shot in the halted state. -/
theorem adoptStop_spec (s : State) (x : StopEffect) :
    (s.adoptStop x).f &&& 0x0F = 0 ∧ (s.memOk = true → (s.adoptStop x).memOk = true) ∧ SameBuild s (s.adoptStop x) ∧
    mbcKind (s.adoptStop x).mbc = mbcKind s.mbc ∧ ((s.adoptStop x).imePending = true → (s.adoptStop x).run = .running) ∧
    (s.adoptStop x).cycles = s.cycles + x.cycles := by
  have k := (Keeps.refl s).busAccesses x.accesses
  refine ⟨setF_low s x.f, fun h => ?_, k.build, k.kind, fun h => ?_, by rw [← busAccesses_cycles s x.accesses]; rfl⟩
  · exact (memOk_congr (s := s.busAccesses x.accesses) (fun j => by cases j <;> rfl) rfl rfl).trans (k.mem h)
  · have h : (x.imePending && decide (x.run = RunState.running)) = true := h
    rw [Bool.and_eq_true, decide_eq_true_eq] at h
    exact h.2

/-- Everything one instruction may do to the invariant, the cartridge, the interrupt state and the cycle count. -/
structure ExecEffect (i : Instr) (s t : State) : Prop where
  low : s.f &&& 0x0F = 0 → t.f &&& 0x0F = 0
  mem : s.memOk = true → t.memOk = true
  build : SameBuild s t
  kind : mbcKind t.mbc = mbcKind s.mbc
  int : (i ≠ .halt ∧ i ≠ .di ∧ i ≠ .ei ∧ i ≠ .reti ∧ SameInterrupts s t) ∨
    (i = .halt ∧ t.ime = s.ime ∧ t.imePending = s.imePending ∧ t.run = .halted) ∨
    (i = .di ∧ t.ime = false ∧ t.imePending = s.imePending ∧ t.run = s.run) ∨
    ((i = .ei ∨ i = .reti) ∧ t.ime = s.ime ∧ t.imePending = true ∧ t.run = s.run) ∨
    (i = .stop ∧ ∃ k, s.stopBehaviour = .step k ∧ t = s.adoptStop (Config.stopStep k s))
  cycles : (∃ n ∈ [4, 8, 12, 16, 20, 24], t.cycles = s.cycles + n) ∨
    (i = .stop ∧ ∃ k, s.stopBehaviour = .step k ∧ t.cycles = s.cycles + (Config.stopStep k s).cycles)

theorem Keeps.effect {i : Instr} {s t : State} (h : Keeps s t)
    (hi : i ≠ .halt ∧ i ≠ .di ∧ i ≠ .ei ∧ i ≠ .reti) (hc : ∃ n ∈ [4, 8, 12, 16, 20, 24], t.cycles = s.cycles + n) :
    ExecEffect i s t :=
  ⟨h.low, h.mem, h.build, h.kind, .inl ⟨hi.1, hi.2.1, hi.2.2.1, hi.2.2.2, h.int⟩, .inl hc⟩

/-- An instruction whose whole effect keeps the interrupt state. -/
theorem ExecEffect.of_keeps {i : Instr} {s t u : State} (h : exec i s = .next t) (e : exec i s = .next u) (hk : Keeps s u)
    (hi : i ≠ .halt ∧ i ≠ .di ∧ i ≠ .ei ∧ i ≠ .reti) (n : Nat) (hn : n ∈ [4, 8, 12, 16, 20, 24] := by decide)
    (hc : u.cycles = s.cycles + n := by rfl) : ExecEffect i s t := by
  rw [e] at h
  cases h
  exact hk.effect hi ⟨n, hn, hc⟩

theorem callTo_keeps (s : State) (target : Word) (n : Nat) : Keeps s (callTo target n s) := (((Keeps.refl s).push16 _).pc _).tick _

theorem callTo_cycles (s : State) (target : Word) (n : Nat) : (callTo target n s).cycles = s.cycles + n := by
  simp only [callTo, State.tick, (push16_frame _ _).2.2.2.2.2]

theorem returnTo_keeps (s : State) (n : Nat) : Keeps s (returnTo n s) := ((Keeps.refl s).pop16.pc _).tick _

theorem returnTo_cycles (s : State) (n : Nat) : (returnTo n s).cycles = s.cycles + n := by
  simp only [returnTo, State.tick, (pop16_frame _).2.2.2.2.2]

/-- What any instruction does, where it has a next state. -/
theorem exec_effect {i : Instr} {s t : State} (h : exec i s = .next t) : ExecEffect i s t := by
  have k := Keeps.refl s
  have ne : i ≠ .halt ∧ i ≠ .di ∧ i ≠ .ei ∧ i ≠ .reti ∨ i = .halt ∨ i = .di ∨ i = .ei ∨ i = .reti := by tauto
  rcases ne with ne | rfl | rfl | rfl | rfl
  · revert ne h
    cases family i <;> intro h ne
    case ld x y => exact .of_keeps h (exec_mkLd ..) ((k.setReg ..).tick _) ne 4 (hc := by simp [ldRegReg])
    case ldImm => exact .of_keeps h (exec_mkLdImm ..) ((k.setReg ..).tick _) ne 8 (hc := by simp [ldRegImm])
    case ldFromHL => exact .of_keeps h (exec_mkLdFromHL ..) (((k.noteRead _).setReg ..).tick _) ne 8 (hc := by simp [ldRegFromHL, State.memRead])
    case ldToHL => exact .of_keeps h (exec_mkLdToHL ..) ((k.memWrite ..).tick _) ne 8 (hc := by simp [ldHLFromReg])
    case alu => exact .of_keeps h (exec_mkAlu ..) ((k.setAlu ..).tick _) ne 4 (hc := by simp [aluReg, aluOn, setAlu_cycles])
    case aluHL => exact .of_keeps h (exec_mkAluHL ..) (((k.noteRead _).setAlu ..).tick _) ne 8
                    (hc := by simp [aluHL, aluOn, setAlu_cycles, State.memRead])
    case aluImm => exact .of_keeps h (exec_mkAluImm ..) ((k.setAlu ..).tick _) ne 8 (hc := by simp [aluImm, aluOn, setAlu_cycles])
    case inc => exact .of_keeps h (exec_mkInc ..) (((k.setReg ..).setFlags ..).tick _) ne 4 (hc := by simp [incReg])
    case dec => exact .of_keeps h (exec_mkDec ..) (((k.setReg ..).setFlags ..).tick _) ne 4 (hc := by simp [decReg])
    case ldPair => exact .of_keeps h (exec_mkLdPair ..) ((k.setPair ..).tick _) ne 12 (hc := by simp [ldPairImm])
    case addHL => exact .of_keeps h (exec_mkAddHL ..) (((k.setPair ..).setFlags ..).tick _) ne 8 (hc := by simp [addHLPair])
    case incPair => exact .of_keeps h (exec_mkIncPair ..) ((k.setPair ..).tick _) ne 8 (hc := by simp [incPair])
    case decPair => exact .of_keeps h (exec_mkDecPair ..) ((k.setPair ..).tick _) ne 8 (hc := by simp [decPair])
    case push => exact .of_keeps h (exec_mkPush ..) ((k.push16 _).tick _) ne 16
                   (hc := by simp [push, (push16_frame _ _).2.2.2.2.2])
    case pop => exact .of_keeps h (exec_mkPop ..) ((k.pop16.setStackPair ..).tick _) ne 12
                  (hc := by simp [pop, setStackPair_cycles, (pop16_frame _).2.2.2.2.2])
    case jpCond cc nn =>
      have e := exec_mkJpCond cc nn s
      unfold jumpIf at e; split at e
      · exact .of_keeps h e ((k.pc _).tick _) ne 16
      · exact .of_keeps h e (k.tick _) ne 12
    case jrCond cc x =>
      have e := exec_mkJrCond cc x s
      unfold jumpRelIf at e; split at e
      · exact .of_keeps h e ((k.pc _).tick _) ne 12
      · exact .of_keeps h e (k.tick _) ne 8
    case callCond cc nn =>
      have e := exec_mkCallCond cc nn s
      unfold callIf at e; split at e
      · exact .of_keeps h e (callTo_keeps ..) ne 24 (hc := callTo_cycles ..)
      · exact .of_keeps h e (k.tick _) ne 12
    case retCond cc =>
      have e := exec_mkRetCond cc s
      unfold returnIf at e; split at e
      · exact .of_keeps h e (returnTo_keeps ..) ne 20 (hc := returnTo_cycles ..)
      · exact .of_keeps h e (k.tick _) ne 8
    case rst => exact .of_keeps h (exec_mkRst ..) (callTo_keeps ..) ne 16 (hc := callTo_cycles ..)
    case shift => exact .of_keeps h (exec_mkShift ..) (((k.setReg ..).setFlags ..).tick _) ne 8 (hc := by simp [shiftReg])
    case shiftHL => exact .of_keeps h (exec_mkShiftHL ..) ((((k.noteRead _).memWrite ..).setFlags ..).tick _) ne 16
                      (hc := by simp [shiftHL, State.memRead])
    case bit => exact .of_keeps h (exec_mkBit ..) ((k.setFlags ..).tick _) ne 8 (hc := by simp [bitReg])
    case bitHL => exact .of_keeps h (exec_mkBitHL ..) (((k.noteRead _).setFlags ..).tick _) ne 12 (hc := by simp [bitHL, State.memRead])
    case res => exact .of_keeps h (exec_mkRes ..) ((k.setReg ..).tick _) ne 8 (hc := by simp [resReg])
    case resHL => exact .of_keeps h (exec_mkResHL ..) (((k.noteRead _).memWrite ..).tick _) ne 16 (hc := by simp [resHL, State.memRead])
    case set => exact .of_keeps h (exec_mkSet ..) ((k.setReg ..).tick _) ne 8 (hc := by simp [setBitReg])
    case setHL => exact .of_keeps h (exec_mkSetHL ..) (((k.noteRead _).memWrite ..).tick _) ne 16 (hc := by simp [setBitHL, State.memRead])
    case ldAtAddrSP nn => exact .of_keeps h rfl (((k.memWrite ..).memWrite ..).tick _) ne 20 (hc := by simp [State.memWrite16])
    case jre => exact .of_keeps h rfl ((k.pc _).tick _) ne 12
    case ldAtHLn => exact .of_keeps h rfl ((k.memWrite ..).tick _) ne 12 (hc := by simp)
    case jpnn => exact .of_keeps h rfl ((k.pc _).tick _) ne 16
    case callnn => exact .of_keeps h rfl (callTo_keeps ..) ne 24 (hc := callTo_cycles ..)
    case ldhAtImmA => exact .of_keeps h rfl ((k.memWrite ..).tick _) ne 12 (hc := by simp [storeA])
    case addSPe => exact .of_keeps h rfl (((k.sp _).setFlags ..).tick _) ne 16
    case ldAtAddrA => exact .of_keeps h rfl ((k.memWrite ..).tick _) ne 16 (hc := by simp [storeA])
    case ldhAAtImm => exact .of_keeps h rfl (((k.noteRead _).a _).tick _) ne 12 (hc := by simp [loadA, State.memRead])
    case ldHLSPe => exact .of_keeps h rfl (((k.setPair ..).setFlags ..).tick _) ne 12 (hc := by simp [ldHLSpadd])
    case ldAAtAddr => exact .of_keeps h rfl (((k.noteRead _).a _).tick _) ne 16 (hc := by simp [loadA, State.memRead])
    case nop => exact .of_keeps h rfl (k.tick _) ne 4
    case ldAtBCA => exact .of_keeps h rfl ((k.memWrite ..).tick _) ne 8 (hc := by simp [storeA])
    case rlca => exact .of_keeps h rfl (((k.a _).setFlags ..).tick _) ne 4
    case ldAAtBC => exact .of_keeps h rfl (((k.noteRead _).a _).tick _) ne 8 (hc := by simp [loadA, State.memRead])
    case rrca => exact .of_keeps h rfl (((k.a _).setFlags ..).tick _) ne 4
    case stop =>
      cases hb : s.stopBehaviour
      · simp [exec, execStop, hb] at h
      · exact .of_keeps h (by simp [exec, execStop, hb, idle]; rfl) (k.tick _) ne 4
      · rename_i n
        have e : exec .stop s = .next (s.adoptStop (Config.stopStep n s)) := by simp [exec, execStop, hb]
        rw [e] at h
        cases h
        have sp := adoptStop_spec s (Config.stopStep n s)
        exact ⟨fun _ => sp.1, sp.2.1, sp.2.2.1, sp.2.2.2.1, .inr (.inr (.inr (.inr ⟨rfl, n, hb, rfl⟩))),
          .inr ⟨rfl, n, hb, sp.2.2.2.2.2⟩⟩
    case ldAtDEA => exact .of_keeps h rfl ((k.memWrite ..).tick _) ne 8 (hc := by simp [storeA])
    case rla => exact .of_keeps h rfl (((k.a _).setFlags ..).tick _) ne 4
    case ldAAtDE => exact .of_keeps h rfl (((k.noteRead _).a _).tick _) ne 8 (hc := by simp [loadA, State.memRead])
    case rra => exact .of_keeps h rfl (((k.a _).setFlags ..).tick _) ne 4
    case ldAtHLIncA => exact .of_keeps h rfl (((k.memWrite ..).setPair ..).tick _) ne 8 (hc := by simp [storeAStep])
    case daa => exact .of_keeps h rfl (((k.a _).setFlags ..).tick _) ne 4
    case ldAAtHLInc => exact .of_keeps h rfl ((((k.noteRead _).a _).setPair ..).tick _) ne 8 (hc := by simp [loadAStep, State.memRead])
    case cpl => exact .of_keeps h rfl (((k.a _).setFlags ..).tick _) ne 4
    case ldAtHLDecA => exact .of_keeps h rfl (((k.memWrite ..).setPair ..).tick _) ne 8 (hc := by simp [storeAStep])
    case incAtHL => exact .of_keeps h rfl ((((k.noteRead _).memWrite ..).setFlags ..).tick _) ne 12 (hc := by simp [stepHL, State.memRead])
    case decAtHL => exact .of_keeps h rfl ((((k.noteRead _).memWrite ..).setFlags ..).tick _) ne 12 (hc := by simp [stepHL, State.memRead])
    case scf => exact .of_keeps h rfl ((k.setFlags ..).tick _) ne 4
    case ldAAtHLDec => exact .of_keeps h rfl ((((k.noteRead _).a _).setPair ..).tick _) ne 8 (hc := by simp [loadAStep, State.memRead])
    case ccf => exact .of_keeps h rfl ((k.setFlags ..).tick _) ne 4
    case halt => exact absurd rfl ne.1
    case ret => exact .of_keeps h rfl (returnTo_keeps ..) ne 16 (hc := returnTo_cycles ..)
    case illegalD3 => exact .of_keeps h rfl (k.tick _) ne 4
    case reti => exact absurd rfl ne.2.2.2
    case illegalDB => exact .of_keeps h rfl (k.tick _) ne 4
    case illegalDD => exact .of_keeps h rfl (k.tick _) ne 4
    case ldhAtCA => exact .of_keeps h rfl ((k.memWrite ..).tick _) ne 8 (hc := by simp [storeA])
    case illegalE3 => exact .of_keeps h rfl (k.tick _) ne 4
    case illegalE4 => exact .of_keeps h rfl (k.tick _) ne 4
    case jpHL => exact .of_keeps h rfl ((k.pc _).tick _) ne 4
    case illegalEB => exact .of_keeps h rfl (k.tick _) ne 4
    case illegalEC => exact .of_keeps h rfl (k.tick _) ne 4
    case illegalED => exact .of_keeps h rfl (k.tick _) ne 4
    case ldhAAtC => exact .of_keeps h rfl (((k.noteRead _).a _).tick _) ne 8 (hc := by simp [loadA, State.memRead])
    case di => exact absurd rfl ne.2.1
    case illegalF4 => exact .of_keeps h rfl (k.tick _) ne 4
    case ldSPHL => exact .of_keeps h rfl ((k.sp _).tick _) ne 8
    case ei => exact absurd rfl ne.2.2.1
    case illegalFC => exact .of_keeps h rfl (k.tick _) ne 4
    case illegalFD => exact .of_keeps h rfl (k.tick _) ne 4
  · cases h
    exact ⟨id, id, k.build, rfl, .inr (.inl ⟨rfl, rfl, rfl, rfl⟩), .inl ⟨4, by decide, rfl⟩⟩
  · cases h
    exact ⟨id, id, k.build, rfl, .inr (.inr (.inl ⟨rfl, rfl, rfl, rfl⟩)), .inl ⟨4, by decide, rfl⟩⟩
  · cases h
    exact ⟨id, id, k.build, rfl, .inr (.inr (.inr (.inl ⟨.inl rfl, rfl, rfl, rfl⟩))), .inl ⟨4, by decide, rfl⟩⟩
  · have kk := (k.pop16.pc s.pop16.1).tick 16
    have fr := pop16_frame s
    cases h
    exact ⟨kk.low, kk.mem, kk.build, kk.kind, .inr (.inr (.inr (.inl ⟨.inr rfl, kk.int.1, rfl, kk.int.2.2⟩))),
      .inl ⟨16, by decide, by simp [State.tick, State.returnFromInterrupt, fr.2.2.2.2.2]⟩⟩

end Sys2Proof.Machine
end

