-- ==== Sys2Proof/Laws/Step.lean ====
section
/-! SUPPORT. The step by its phases: what a step is after each, and what taking an interrupt leaves. -/

namespace Sys2Proof.Machine

/-- A step whose execute phase is reached. -/
theorem step_execute {s u : State} (h : s.boundary = .execute u) : step s = exec u.fetchInstr.1 u.fetchInstr.2 := by
  unfold step; rw [h]

/-- A step that is over before its execute phase. -/
theorem step_finished {s u : State} (h : s.boundary = .finished u) : step s = .next u := by
  unfold step; rw [h]

/-- Where no interrupt can be dispatched and the machine runs, the execute phase is reached. -/
theorem boundary_running {s : State} (h1 : s.ime = false) (h2 : s.run = .running) :
    s.boundary = .execute { s with run := .running, ime := s.ime || s.imePending, imePending := false } := by
  rcases boundary_cases s with ⟨h, _, _⟩ | ⟨h, _⟩ | ⟨_, _, h⟩
  · simp [h1] at h
  · simp [h2] at h
  · exact h

/-- Where an interrupt is dispatched. -/
theorem boundary_dispatch {s : State} (h1 : s.ime = true) (h2 : s.pending ≠ 0) :
    s.boundary = .finished ({ s with run := .running }.takeInterrupt (lowestSet s.pending)) := by
  have hw : s.wake = { s with run := .running } := by
    unfold State.wake
    split
    · rfl
    · have : s.run = .running := by cases h : s.run <;> simp_all
      cases s; simp_all
  unfold State.boundary
  rw [if_pos ⟨h1, h2⟩, hw]

/-- A store does not look at the interrupt state. -/
theorem memWrite_setInterrupts (s : State) (b1 b2 : Bool) (r : RunState) (addr : Word) (v : Byte) :
    { s with ime := b1, imePending := b2, run := r }.memWrite addr v =
      { s.memWrite addr v with ime := b1, imePending := b2, run := r } := by
  unfold State.memWrite
  rw [show State.locate { s with ime := b1, imePending := b2, run := r } addr = s.locate addr from rfl]
  cases s.locate addr <;> simp only [State.writeLoc, State.writeCell]
  all_goals try rfl
  all_goals rename_i k _; cases k <;> rfl

/-- A push does not look at the interrupt state. -/
theorem push16_setInterrupts (s : State) (b1 b2 : Bool) (r : RunState) (v : Word) :
    { s with ime := b1, imePending := b2, run := r }.push16 v = { s.push16 v with ime := b1, imePending := b2, run := r } := by
  rw [push16_eq, push16_eq]
  show { (State.memWrite { s with ime := b1, imePending := b2, run := r } (s.sp - 1) (hiByte v)).memWrite (s.sp - 2)
    (loByte v) with sp := s.sp - 2 } = _
  rw [memWrite_setInterrupts s, memWrite_setInterrupts (s.memWrite (s.sp - 1) (hiByte v))]

/-- Taking an interrupt, whole, over the push of `PC` (60_exceptions.md R405). -/
theorem takeInterrupt_eq (s : State) (i : Nat) :
    { s with run := .running }.takeInterrupt i =
      { s.push16 s.pc with
          ime := false, imePending := false, run := .running, pc := vector i
          ifReg := (s.push16 s.pc).ifReg &&& ~~~(1#5 <<< i), cycles := s.cycles + 20 } := by
  unfold State.takeInterrupt
  rw [show State.push16 { s with run := .running, ime := false, imePending := false } s.pc =
    { s.push16 s.pc with ime := false, imePending := false, run := .running } from push16_setInterrupts s false false .running s.pc]
  simp only [State.tick, (push16_frame s s.pc).2.2.2.2.2]

/-- The lowest set bit. -/
theorem lowestSet_eq {p : BitVec 5} (i : Fin 5) (h : p.getLsbD i.val = true) (hj : ∀ j < i.val, p.getLsbD j = false) :
    lowestSet p = i.val := by
  unfold lowestSet
  fin_cases i
  · simp_all
  · have := hj 0 (by simp); simp_all
  · have := hj 0 (by simp); have := hj 1 (by simp); simp_all
  · have := hj 0 (by simp); have := hj 1 (by simp); have := hj 2 (by simp); simp_all
  · have := hj 0 (by simp); have := hj 1 (by simp); have := hj 2 (by simp); have := hj 3 (by simp); simp_all

/-- The vectors. -/
theorem vector_lowestSet (p : BitVec 5) : vector (lowestSet p) ∈ [0x0040, 0x0048, 0x0050, 0x0058, 0x0060] := by
  unfold lowestSet
  repeat' split
  all_goals decide

/-- Fetching a one-byte instruction. -/
theorem fetchInstr_f0 {u : State} (h : opcodeFormat (u.peek u.pc) = .f0) :
    u.fetchInstr = (decodePrimary (u.peek u.pc) 0 0, u.fetch8.2) := by
  unfold State.fetchInstr
  simp only [fetch8_eq] at *
  simp only [h]

end Sys2Proof.Machine
end

