-- ==== Sys2Proof/Tests/Slice0.lean ====
section
/-! SUPPORT. Small tests of the model: words decoded bit by bit, the vectors of 95_test_vectors.md one step at a time, and for every statement with
hypotheses a state and operands that meet them. -/

open Sys2Proof Sys2Proof.Machine

/-- The start of the vectors: every register 0 but `SP`, `PC` at `pc`, the bytes there in ROM. -/
def baseAt (pc : Nat) (bytes : List Byte) : State :=
  { State.resetWith .none (romOfImage pc bytes) 2 0 with
    a := 0, f := 0, b := 0, c := 0, d := 0, e := 0, h := 0, l := 0, pc := BitVec.ofNat 16 pc }

/-- The start with `PC` at `0x0100`. -/
def base (bytes : List Byte) : State := baseAt 0x0100 bytes

/-- What holds after a next state; false of a fault and of a refusal. -/
def after (r : Result) (p : State → Bool) : Bool :=
  match r with
  | .next t => p t
  | .fault _ => false
  | .refused _ => false

/-- Whether an outcome is the given refusal. -/
def stops (r : Result) (x : Refusal) : Bool :=
  match r with
  | .next _ => false
  | .fault _ => false
  | .refused y => decide (y = x)

theorem next_of_after {r : Result} {p : State → Bool} (h : after r p = true) : ∃ t, r = .next t ∧ p t = true := by
  cases r with
  | next t => exact ⟨t, rfl, h⟩
  | fault x => cases h
  | refused x => cases h

/-! ## Ill-formed data is refused -/

theorem test_memWf_refuses_unsorted : memWf [(5, 0x01), (4, 0x02)] = false := by decide
theorem test_memWf_refuses_repeat : memWf [(4, 0x01), (4, 0x02)] = false := by decide
theorem test_memWf_accepts : memWf [(4, 0x01), (5, 0x00)] = true := by decide
theorem test_romWf_refuses_zero : romWf [(4, 0x00)] = false := by decide
theorem test_romWf_refuses_unsorted : romWf [(5, 0x01), (4, 0x02)] = false := by decide
theorem test_memBelow_refuses_outside : memBelow 127 [(127, 0x01)] = false := by decide
theorem test_memOk_refuses_wide_nibble :
    { base [] with mbc := .mbc2 false 0, ramBytes := 512, cram := [(0, 0x10)] }.memOk = false := by decide
theorem test_inv_refuses_low_flag : ¬ State.Inv { base [] with f := 0x01 } := by decide
theorem test_inv_refuses_armed_halt : ¬ State.Inv { base [] with run := .halted, imePending := true } := by decide
theorem test_decode_refuses_no_bytes : decode [] = .error .noBytes := by decide
theorem test_decode_refuses_truncated : decode [0xC3, 0x00] = .error (.truncated 0xC3) := by decide
theorem test_wellFormed : Instr.WellFormed (.ldBCnn 0xFFFF) := trivial

/-! ## Decoding: each word written field by field from 30_encoding.md R130 to R143 -/

/-- One byte from the fields `x`, `y`, `z` (R132). -/
def xyz (x y z : Nat) : Byte := BitVec.ofNat 8 (64 * x + 8 * y + z)

theorem test_decode_ld : decode [xyz 1 7 0] = .ok (.ldAB, []) := by decide
theorem test_decode_ldImm : decode [xyz 0 7 6, 0x05] = .ok (.ldAn 0x05, []) := by decide
theorem test_decode_ldFromHL : decode [xyz 1 3 6] = .ok (.ldEAtHL, []) := by decide
theorem test_decode_ldToHL : decode [xyz 1 6 1] = .ok (.ldAtHLC, []) := by decide
theorem test_decode_ldAtHLn : decode [xyz 0 6 6, 0xA5] = .ok (.ldAtHLn 0xA5, []) := by decide
theorem test_decode_ldA : decode [xyz 0 3 2] = .ok (.ldAAtDE, []) := by decide
theorem test_decode_stA : decode [xyz 0 0 2] = .ok (.ldAtBCA, []) := by decide
theorem test_decode_ldStep : decode [xyz 0 7 2] = .ok (.ldAAtHLDec, []) := by decide
theorem test_decode_ldAbs : decode [xyz 3 7 2, 0x0F, 0xFF] = .ok (.ldAAtAddr 0xFF0F, []) := by decide
theorem test_decode_ldh : decode [xyz 3 6 0, 0x0F] = .ok (.ldhAAtImm 0x0F, []) := by decide
theorem test_decode_ldhC : decode [xyz 3 4 2] = .ok (.ldhAtCA, []) := by decide
theorem test_decode_ldPair : decode [xyz 0 4 1, 0x34, 0x12] = .ok (.ldHLnn 0x1234, []) := by decide
theorem test_decode_stSP : decode [xyz 0 1 0, 0x00, 0xC1] = .ok (.ldAtAddrSP 0xC100, []) := by decide
theorem test_decode_ldSPHL : decode [xyz 3 7 1] = .ok (.ldSPHL, []) := by decide
theorem test_decode_ldHLSPe : decode [xyz 3 7 0, 0xFE] = .ok (.ldHLSPe 0xFE, []) := by decide
theorem test_decode_push : decode [xyz 3 6 5] = .ok (.pushAF, []) := by decide
theorem test_decode_pop : decode [xyz 3 2 1] = .ok (.popDE, []) := by decide
theorem test_decode_alu : decode [xyz 2 3 7] = .ok (.sbcAA, []) := by decide
theorem test_decode_aluHL : decode [xyz 2 5 6] = .ok (.xorAtHL, []) := by decide
theorem test_decode_aluImm : decode [xyz 3 7 6, 0x40] = .ok (.cpn 0x40, []) := by decide
theorem test_decode_inc : decode [xyz 0 6 4] = .ok (.incAtHL, []) := by decide
theorem test_decode_dec : decode [xyz 0 2 5] = .ok (.decD, []) := by decide
theorem test_decode_daa : decode [xyz 0 4 7] = .ok (.daa, []) := by decide
theorem test_decode_addHL : decode [xyz 0 7 1] = .ok (.addHLSP, []) := by decide
theorem test_decode_incPair : decode [xyz 0 2 3] = .ok (.incDE, []) := by decide
theorem test_decode_decPair : decode [xyz 0 5 3] = .ok (.decHL, []) := by decide
theorem test_decode_addSP : decode [xyz 3 5 0, 0xFE] = .ok (.addSPe 0xFE, []) := by decide
theorem test_decode_rotA : decode [xyz 0 3 7] = .ok (.rra, []) := by decide
theorem test_decode_shift : decode [0xCB, xyz 0 6 7] = .ok (.swapA, []) := by decide
theorem test_decode_shiftHL : decode [0xCB, xyz 0 5 6] = .ok (.sraAtHL, []) := by decide
theorem test_decode_bit : decode [0xCB, xyz 1 4 5] = .ok (.bit4L, []) := by decide
theorem test_decode_res : decode [0xCB, xyz 2 3 6] = .ok (.res3AtHL, []) := by decide
theorem test_decode_set : decode [0xCB, xyz 3 1 3] = .ok (.set1E, []) := by decide
theorem test_decode_jp : decode [xyz 3 0 3, 0x50, 0x01] = .ok (.jpnn 0x0150, []) := by decide
theorem test_decode_jpCond : decode [xyz 3 2 2, 0x00, 0x80] = .ok (.jpNCnn 0x8000, []) := by decide
theorem test_decode_jr : decode [xyz 0 3 0, 0xFE] = .ok (.jre 0xFE, []) := by decide
theorem test_decode_jrCond : decode [xyz 0 5 0, 0x05] = .ok (.jrZe 0x05, []) := by decide
theorem test_decode_call : decode [xyz 3 1 5, 0x34, 0x12] = .ok (.callnn 0x1234, []) := by decide
theorem test_decode_callCond : decode [xyz 3 3 4, 0x00, 0x20] = .ok (.callCnn 0x2000, []) := by decide
theorem test_decode_ret : decode [xyz 3 1 1] = .ok (.ret, []) := by decide
theorem test_decode_retCond : decode [xyz 3 0 0] = .ok (.retNZ, []) := by decide
theorem test_decode_reti : decode [xyz 3 3 1] = .ok (.reti, []) := by decide
theorem test_decode_rst : decode [xyz 3 5 7] = .ok (.rst28H, []) := by decide
theorem test_decode_halt : decode [xyz 1 6 6] = .ok (.halt, []) := by decide
theorem test_decode_di : decode [xyz 3 6 3] = .ok (.di, []) := by decide
theorem test_decode_ei : decode [xyz 3 7 3] = .ok (.ei, []) := by decide
theorem test_decode_stop : decode [xyz 0 2 0] = .ok (.stop, []) := by decide
theorem test_decode_nop : decode [xyz 0 0 0] = .ok (.nop, []) := by decide
theorem test_decode_illegal : decode [xyz 3 5 3] = .ok (.illegalEB, []) := by decide
theorem test_table_first_byte_lowest : decodeTableWord 24 0x1234C3 = some (.jpnn 0x1234) := by decide
theorem test_table_prefixed : decodeTableWord 16 0xCB37 = some .swapA := by decide

/-! ## Vectors of 95_test_vectors.md -/

/-- V1: the source's trace. -/
theorem test_V1 : after (step (base [0x3E, 0x05])) (fun t => t.a == 0x05 && t.pc == 0x0102 && t.cycles == 8) = true ∧
    after (step ({ base [0xC6, 0x0B] with a := 0x05 })) (fun t => t.a == 0x10 && t.f == 0x20 && t.cycles == 8) = true := by decide

/-! 95_test_vectors.md V16: one step from the bytes at `0x0100`. -/

theorem test_LD_B_C : after (step ({ base [0x41] with c := 0x7E }))
    (fun t => t.b == 0x7E && t.pc == 0x0101 && t.cycles == 4) = true := by decide

theorem test_LD_AtHL_n : after (step ({ base [0x36, 0xA5] with h := 0xC1, l := 0x23 }))
    (fun t => t.peek 0xC123 == 0xA5 && t.pc == 0x0102 && t.cycles == 12) = true := by decide

theorem test_LD_A_HLInc : after (step ({ base [0x2A] with h := 0xFF, l := 0xFF, ieReg := 0x1B }))
    (fun t => t.a == 0x1B && t.hl == 0x0000 && t.pc == 0x0101 && t.cycles == 8) = true := by decide

theorem test_LD_HLDec_A : after (step ({ base [0x32] with h := 0xC0, l := 0x00, a := 0x77 }))
    (fun t => t.peek 0xC000 == 0x77 && t.hl == 0xBFFF && t.pc == 0x0101 && t.cycles == 8) = true := by decide

theorem test_LDH_Atn_A : after (step ({ base [0xE0, 0x80] with a := 0x3C }))
    (fun t => t.peek 0xFF80 == 0x3C && t.pc == 0x0102 && t.cycles == 12) = true := by decide

theorem test_LDH_A_AtC : after (step ({ base [0xF2] with c := 0x0F, ifReg := 0x03 }))
    (fun t => t.a == 0xE3 && t.pc == 0x0101 && t.cycles == 8) = true := by decide

theorem test_LD_Atnn_SP : after (step ({ base [0x08, 0x00, 0xC1] with sp := 0xFFF8 }))
    (fun t => t.peek 0xC100 == 0xF8 && t.peek 0xC101 == 0xFF && t.pc == 0x0103 && t.cycles == 20) = true := by decide

theorem test_LD_SP_HL : after (step ({ base [0xF9] with h := 0xD1, l := 0x23 }))
    (fun t => t.sp == 0xD123 && t.pc == 0x0101 && t.cycles == 8) = true := by decide

theorem test_PUSH_AF : after (step ({ base [0xF5] with a := 0x12, f := 0xB0, sp := 0xD000 }))
    (fun t => t.peek 0xCFFF == 0x12 && t.peek 0xCFFE == 0xB0 && t.sp == 0xCFFE && t.pc == 0x0101 && t.cycles == 16) = true := by decide

theorem test_POP_AF : after (step (({ base [0xF1] with sp := 0xC000 }.memWrite 0xC000 0xFF).memWrite 0xC001 0x9A))
    (fun t => t.a == 0x9A && t.f == 0xF0 && t.sp == 0xC002 && t.pc == 0x0101 && t.cycles == 12) = true := by decide

theorem test_POP_BC : after (step ({ base [0xC1] with sp := 0xFFFF, ieReg := 0x34 }))
    (fun t => t.c == 0x34 && t.b == 0x00 && t.sp == 0x0001 && t.pc == 0x0101 && t.cycles == 12) = true := by decide

theorem test_LD_HL_SPe_wide : after (step ({ base [0xF8, 0x01] with sp := 0x00FF }))
    (fun t => t.hl == 0x0100 && t.f == 0x00 && t.pc == 0x0102 && t.cycles == 12) = true := by decide

theorem test_LD_HL_SPe_narrow : after (step ({ base [0xF8, 0x01] with sp := 0x00FF, spaddFlags := .narrow }))
    (fun t => t.hl == 0x0100 && t.f == 0x30 && t.pc == 0x0102 && t.cycles == 12) = true := by decide

/-! 95_test_vectors.md V17: one step from the bytes at `0x0100`. -/

theorem test_ADC_A_B : after (step ({ base [0x88] with a := 0xE1, b := 0x0F, f := 0x10 }))
    (fun t => t.a == 0xF1 && t.f == 0x20 && t.pc == 0x101 && t.cycles == 4) = true := by decide

theorem test_SBC_A_n : after (step ({ base [0xDE, 0x4F] with a := 0x3B, f := 0x10 }))
    (fun t => t.a == 0xEB && t.f == 0x70 && t.pc == 0x0102 && t.cycles == 8) = true := by decide

theorem test_CP_AtHL : after (step ({ base [0xBE] with a := 0x3C, h := 0xC0, l := 0x00 }.memWrite 0xC000 0x40))
    (fun t => t.a == 0x3C && t.f == 0x50 && t.pc == 0x101 && t.cycles == 8) = true := by decide

theorem test_AND_n : after (step ({ base [0xE6, 0x38] with a := 0x5A, f := 0x10 }))
    (fun t => t.a == 0x18 && t.f == 0x20 && t.pc == 0x102 && t.cycles == 8) = true := by decide

theorem test_XOR_A : after (step ({ base [0xAF] with a := 0xFF, f := 0xF0 }))
    (fun t => t.a == 0x00 && t.f == 0x80 && t.pc == 0x101 && t.cycles == 4) = true := by decide

theorem test_OR_AtHL : after (step ({ base [0xB6] with a := 0x5A, h := 0xC0, l := 0x00 }.memWrite 0xC000 0x0F))
    (fun t => t.a == 0x5F && t.f == 0x00 && t.pc == 0x101 && t.cycles == 8) = true := by decide

theorem test_INC_AtHL : after (step ({ base [0x34] with h := 0xC0, l := 0x00, f := 0x10 }.memWrite 0xC000 0xFF))
    (fun t => t.peek 0xC000 == 0x00 && t.f == 0xB0 && t.pc == 0x101 && t.cycles == 12) = true := by decide

theorem test_DEC_L : after (step ({ base [0x2D] with l := 0x01, f := 0x10 }))
    (fun t => t.l == 0x00 && t.f == 0xD0 && t.pc == 0x101 && t.cycles == 4) = true := by decide

theorem test_CPL : after (step ({ base [0x2F] with a := 0x35, f := 0x90 }))
    (fun t => t.a == 0xCA && t.f == 0xF0 && t.pc == 0x101 && t.cycles == 4) = true := by decide

theorem test_SCF : after (step ({ base [0x37] with f := 0xE0 }))
    (fun t => t.f == 0x90 && t.pc == 0x101 && t.cycles == 4) = true := by decide

theorem test_CCF : after (step ({ base [0x3F] with f := 0xF0 }))
    (fun t => t.f == 0x80 && t.pc == 0x101 && t.cycles == 4) = true := by decide

theorem test_DAA : after (step ({ base [0x27] with a := 0x9A, f := 0x00 }))
    (fun t => t.a == 0x00 && t.f == 0x90 && t.pc == 0x101 && t.cycles == 4) = true := by decide

theorem test_ADD_HL_DE : after (step ({ base [0x19] with h := 0x8A, l := 0x23, d := 0x06, e := 0x05, f := 0x80 }))
    (fun t => t.hl == 0x9028 && t.f == 0xA0 && t.pc == 0x101 && t.cycles == 8) = true := by decide

theorem test_ADD_HL_HL : after (step ({ base [0x29] with h := 0x8A, l := 0x23 }))
    (fun t => t.hl == 0x1446 && t.f == 0x30 && t.pc == 0x101 && t.cycles == 8) = true := by decide

theorem test_ADD_HL_SP : after (step ({ base [0x39] with h := 0x00, l := 0x01, sp := 0xFFFF, f := 0x80 }))
    (fun t => t.hl == 0x0000 && t.f == 0xB0 && t.pc == 0x101 && t.cycles == 8) = true := by decide

theorem test_INC_SP : after (step ({ base [0x33] with sp := 0xFFFF, f := 0xF0 }))
    (fun t => t.sp == 0x0000 && t.f == 0xF0 && t.pc == 0x101 && t.cycles == 8) = true := by decide

theorem test_DEC_BC : after (step ({ base [0x0B] with b := 0x00, c := 0x00 }))
    (fun t => t.bc == 0xFFFF && t.f == 0x00 && t.pc == 0x101 && t.cycles == 8) = true := by decide

theorem test_ADD_SP_e_wide : after (step ({ base [0xE8, 0xFF] with sp := 0x0001, f := 0xC0 }))
    (fun t => t.sp == 0x0000 && t.f == 0x30 && t.pc == 0x0102 && t.cycles == 16) = true := by decide

theorem test_ADD_SP_e_wide_2 : after (step ({ base [0xE8, 0x01] with sp := 0x0FFF }))
    (fun t => t.sp == 0x1000 && t.f == 0x20 && t.pc == 0x102 && t.cycles == 16) = true := by decide

theorem test_ADD_SP_e_narrow : after (step ({ base [0xE8, 0x01] with sp := 0x0FFF, spaddFlags := .narrow }))
    (fun t => t.sp == 0x1000 && t.f == 0x30 && t.pc == 0x102 && t.cycles == 16) = true := by decide

/-! 95_test_vectors.md V18: one step from the bytes at `0x0100`. -/

theorem test_RLCA : after (step ({ base [0x07] with a := 0x80, f := 0x80 }))
    (fun t => t.a == 0x01 && t.f == 0x10 && t.pc == 0x101 && t.cycles == 4) = true := by decide

theorem test_RRCA : after (step ({ base [0x0F] with a := 0x01 }))
    (fun t => t.a == 0x80 && t.f == 0x10 && t.pc == 0x101 && t.cycles == 4) = true := by decide

theorem test_RLA : after (step ({ base [0x17] with a := 0x80, f := 0x00 }))
    (fun t => t.a == 0x00 && t.f == 0x10 && t.pc == 0x101 && t.cycles == 4) = true := by decide

theorem test_RRA : after (step ({ base [0x1F] with a := 0x01, f := 0x10 }))
    (fun t => t.a == 0x80 && t.f == 0x10 && t.pc == 0x101 && t.cycles == 4) = true := by decide

theorem test_RLC_B : after (step ({ base [0xCB, 0x00] with b := 0x85 }))
    (fun t => t.b == 0x0B && t.f == 0x10 && t.pc == 0x0102 && t.cycles == 8) = true := by decide

theorem test_RLC_B_2 : after (step ({ base [0xCB, 0x00] with b := 0x00, f := 0x10 }))
    (fun t => t.b == 0x00 && t.f == 0x80 && t.pc == 0x102 && t.cycles == 8) = true := by decide

theorem test_RRC_AtHL : after (step ({ base [0xCB, 0x0E] with h := 0xC0, l := 0x00 }.memWrite 0xC000 0x01))
    (fun t => t.peek 0xC000 == 0x80 && t.f == 0x10 && t.pc == 0x102 && t.cycles == 16) = true := by decide

theorem test_RL_C : after (step ({ base [0xCB, 0x11] with c := 0x80, f := 0x00 }))
    (fun t => t.c == 0x00 && t.f == 0x90 && t.pc == 0x102 && t.cycles == 8) = true := by decide

theorem test_RR_AtHL : after (step ({ base [0xCB, 0x1E] with h := 0xC0, l := 0x00, f := 0x10 }.memWrite 0xC000 0x8A))
    (fun t => t.peek 0xC000 == 0xC5 && t.f == 0x00 && t.pc == 0x102 && t.cycles == 16) = true := by decide

theorem test_SLA_D : after (step ({ base [0xCB, 0x22] with d := 0xFF }))
    (fun t => t.d == 0xFE && t.f == 0x10 && t.pc == 0x102 && t.cycles == 8) = true := by decide

theorem test_SRA_E : after (step ({ base [0xCB, 0x2B] with e := 0x8A }))
    (fun t => t.e == 0xC5 && t.f == 0x00 && t.pc == 0x102 && t.cycles == 8) = true := by decide

theorem test_SRL_A : after (step ({ base [0xCB, 0x3F] with a := 0x01 }))
    (fun t => t.a == 0x00 && t.f == 0x90 && t.pc == 0x102 && t.cycles == 8) = true := by decide

theorem test_SWAP_AtHL : after (step ({ base [0xCB, 0x36] with h := 0xC0, l := 0x00, f := 0xF0 }.memWrite 0xC000 0xF1))
    (fun t => t.peek 0xC000 == 0x1F && t.f == 0x00 && t.pc == 0x102 && t.cycles == 16) = true := by decide

theorem test_BIT_7_H : after (step ({ base [0xCB, 0x7C] with h := 0x80, f := 0x10 }))
    (fun t => t.h == 0x80 && t.f == 0x30 && t.pc == 0x102 && t.cycles == 8) = true := by decide

theorem test_BIT_0_AtHL : after (step ({ base [0xCB, 0x46] with h := 0xC0, l := 0x00, f := 0x00 }.memWrite 0xC000 0xFE))
    (fun t => t.peek 0xC000 == 0xFE && t.f == 0xA0 && t.pc == 0x102 && t.cycles == 12) = true := by decide

theorem test_RES_0_AtHL : after (step ({ base [0xCB, 0x86] with h := 0xC0, l := 0x00, f := 0xF0 }.memWrite 0xC000 0xFF))
    (fun t => t.peek 0xC000 == 0xFE && t.f == 0xF0 && t.pc == 0x102 && t.cycles == 16) = true := by decide

theorem test_SET_7_A : after (step ({ base [0xCB, 0xFF] with a := 0x00 }))
    (fun t => t.a == 0x80 && t.f == 0x00 && t.pc == 0x102 && t.cycles == 8) = true := by decide

/-! 95_test_vectors.md V19: one step from the bytes at `0x0100`. -/

theorem test_JP_nn : after (step (base [0xC3, 0x34, 0x12]))
    (fun t => t.pc == 0x1234 && t.cycles == 16) = true := by decide

theorem test_JP_Z_nn : after (step ({ base [0xCA, 0x34, 0x12] with f := 0x00 }))
    (fun t => t.pc == 0x0103 && t.cycles == 12) = true := by decide

theorem test_JP_Z_nn_2 : after (step ({ base [0xCA, 0x34, 0x12] with f := 0x80 }))
    (fun t => t.pc == 0x1234 && t.cycles == 16) = true := by decide

theorem test_JP_HL : after (step ({ base [0xE9] with h := 0xC0, l := 0x00 }))
    (fun t => t.pc == 0xC000 && t.cycles == 4) = true := by decide

theorem test_JR_e : after (step (base [0x18, 0xFE]))
    (fun t => t.pc == 0x0100 && t.cycles == 12) = true := by decide

theorem test_JR_e_2 : after (step (base [0x18, 0x80]))
    (fun t => t.pc == 0x0082 && t.cycles == 12) = true := by decide

theorem test_JR_NC_e : after (step ({ base [0x30, 0x10] with f := 0x10 }))
    (fun t => t.pc == 0x0102 && t.cycles == 8) = true := by decide

theorem test_JR_C_e : after (step ({ base [0x38, 0x10] with f := 0x10 }))
    (fun t => t.pc == 0x0112 && t.cycles == 12) = true := by decide

theorem test_CALL_nn : after (step ({ base [0xCD, 0x00, 0x02] with sp := 0xD000 }))
    (fun t => t.pc == 0x0200 && t.sp == 0xCFFE && t.peek 0xCFFF == 0x01 && t.peek 0xCFFE == 0x03 && t.cycles == 24) = true := by decide

theorem test_CALL_NZ_nn : after (step ({ base [0xC4, 0x00, 0x02] with sp := 0xD000, f := 0x80 }))
    (fun t => t.pc == 0x0103 && t.sp == 0xD000 && t.cycles == 12) = true := by decide

theorem test_RET : after (step (({ base [0xC9] with sp := 0xC000 }.memWrite 0xC000 0x78).memWrite 0xC001 0x56))
    (fun t => t.pc == 0x5678 && t.sp == 0xC002 && t.cycles == 16) = true := by decide

theorem test_RET_C : after (step (({ base [0xD8] with sp := 0xC000, f := 0x00 }.memWrite 0xC000 0x78).memWrite 0xC001 0x56))
    (fun t => t.pc == 0x0101 && t.sp == 0xC000 && t.cycles == 8) = true := by decide

theorem test_RET_C_2 : after (step (({ base [0xD8] with sp := 0xC000, f := 0x10 }.memWrite 0xC000 0x78).memWrite 0xC001 0x56))
    (fun t => t.pc == 0x5678 && t.sp == 0xC002 && t.cycles == 20) = true := by decide

theorem test_RETI : after (step (({ base [0xD9] with sp := 0xC000 }.memWrite 0xC000 0x78).memWrite 0xC001 0x56))
    (fun t => t.pc == 0x5678 && t.sp == 0xC002 && !t.ime && t.imePending && t.cycles == 16) = true := by decide

theorem test_RST_38 : after (step ({ base [0xFF] with sp := 0xD000 }))
    (fun t => t.pc == 0x0038 && t.sp == 0xCFFE && t.peek 0xCFFF == 0x01 && t.peek 0xCFFE == 0x01 && t.cycles == 16) = true := by decide

theorem test_RST_00 : after (step ({ base [0xC7] with sp := 0x0001 }))
    (fun t => t.pc == 0x0000 && t.sp == 0xFFFF && t.ieReg == 0x01 && t.cycles == 16) = true := by decide

theorem test_DI : after (step ({ base [0xF3] with ime := true, imePending := true }))
    (fun t => !t.ime && !t.imePending && t.pc == 0x101 && t.cycles == 4) = true := by decide

theorem test_EI : after (step ({ base [0xFB] with ime := false }))
    (fun t => !t.ime && t.imePending && t.pc == 0x101 && t.cycles == 4) = true := by decide

theorem test_illegal_DD : after (step ({ base [0xDD, 0x21] with a := 0x11, f := 0xF0 }))
    (fun t => t.a == 0x11 && t.f == 0xF0 && t.pc == 0x0101 && t.cycles == 4) = true := by decide

theorem test_illegal_D3 : after (step (base [0xD3]))
    (fun t => t.pc == 0x0101 && t.cycles == 4) = true := by decide

theorem test_NOP : after (step (base [0x00]))
    (fun t => t.pc == 0x0101 && t.cycles == 4) = true := by decide

theorem test_HALT : after (step (base [0x76]))
    (fun t => t.pc == 0x0101 && t.run == .halted && t.cycles == 4) = true := by decide

/-! 95_test_vectors.md V40: the phases of a step. -/

theorem test_V40_1 : after (step ({ baseAt 0x0150 [0x00] with ime := true, ifReg := 0x05, ieReg := 0x05, pc := 0x0150, sp := 0xFFFE }))
    (fun t => t.pc == 0x0040 && t.sp == 0xFFFC && t.peek 0xFFFD == 0x01 && t.peek 0xFFFC == 0x50 && t.ifReg == 0x04 && !t.ime && t.cycles == 20) = true := by decide

theorem test_V40_2 : after (step ({ baseAt 0x0150 [0x00] with ime := true, ifReg := 0x1F, ieReg := 0x18, pc := 0x0150 }))
    (fun t => t.pc == 0x0058 && t.ifReg == 0x17 && !t.ime && t.cycles == 20) = true := by decide

theorem test_V40_3 : after (step ({ baseAt 0x0150 [0x00] with ime := true, ifReg := 0x04, ieReg := 0xFB, pc := 0x0150 }))
    (fun t => t.pc == 0x0151 && t.cycles == 4) = true := by decide

theorem test_V40_4 : after (step ({ baseAt 0x0151 [0x00] with ime := false, ifReg := 0x01, ieReg := 0x01, pc := 0x0151, run := .halted }))
    (fun t => t.ifReg == 0x01 && t.run == .running && t.cycles == 4) = true := by decide

theorem test_V40_5 : after (step ({ baseAt 0x0151 [0x00] with ime := true, ifReg := 0x01, ieReg := 0x01, pc := 0x0151, run := .halted }))
    (fun t => t.pc == 0x0040 && t.ifReg == 0x00 && !t.ime && t.run == .running && t.peek 0xFFFD == 0x01 && t.peek 0xFFFC == 0x51 && t.cycles == 20) = true := by decide

theorem test_V40_6 : after (step ({ baseAt 0x0150 [0x00] with ime := false, ifReg := 0x01, ieReg := 0x00, run := .halted, pc := 0x0150 }))
    (fun t => t.run == .halted && t.ifReg == 0x01 && t.cycles == 4) = true := by decide

theorem test_V40_7 : after (step ({ baseAt 0x0150 [0x00] with ime := false, imePending := true, ifReg := 0x01, ieReg := 0x01, pc := 0x0150 }))
    (fun t => t.ime && !t.imePending && t.pc == 0x0151 && t.cycles == 4) = true := by decide

theorem test_V40_8 : after (step ({ baseAt 0x0150 [0xF3] with ime := false, imePending := true, ifReg := 0x01, ieReg := 0x01, pc := 0x0150 }))
    (fun t => !t.ime && !t.imePending && t.cycles == 4) = true := by decide

theorem test_V40_9 : after (step ({ baseAt 0x0150 [0xFB] with ime := false, imePending := true, pc := 0x0150 }))
    (fun t => t.ime && t.imePending && t.cycles == 4) = true := by decide

/-! ## Loading (20_memory.md R100 to R103) -/

/-- A 32 KiB image of 0x00 with the given header bytes: two ROM banks. -/
def headerImage (kind romCode ramCode : Byte) : List Byte :=
  List.replicate 0x147 0 ++ ([kind, romCode, ramCode] ++ List.replicate 32438 0)

theorem headerImage_length (k r m : Byte) : (headerImage k r m).length = 32768 := by
  simp only [headerImage, List.length_append, List.length_replicate, List.length_cons, List.length_nil]

theorem headerImage_header (k r m : Byte) :
    (headerImage k r m).getD 0x147 0 = k ∧ (headerImage k r m).getD 0x148 0 = r ∧ (headerImage k r m).getD 0x149 0 = m := by
  have h : ∀ i < 3, (headerImage k r m).getD (0x147 + i) 0 = [k, r, m].getD i 0 := by
    intro i hi
    unfold headerImage
    rw [List.getD_eq_getElem?_getD, List.getD_eq_getElem?_getD, List.getElem?_append_right (by rw [List.length_replicate]; omega),
      List.length_replicate, Nat.add_sub_cancel_left, List.getElem?_append_left (by simpa using hi)]
  exact ⟨h 0 (by omega), h 1 (by omega), h 2 (by omega)⟩

/-- An image with header bytes in the tables loads. -/
theorem load_headerImage {k m : Byte} {mbc : Mbc} {n : Nat} (hk : mbcOfHeader k = some mbc) (hm : ramBytesFor mbc m = some n) :
    load (headerImage k 0 m) = .ok (State.resetWith mbc (romOfImage 0 (headerImage k 0 m)) 2 n) := by
  obtain ⟨h1, h2, h3⟩ := headerImage_header k 0 m
  unfold load
  simp only [h1, h2, h3, headerImage_length, hk, hm, show romBanksOfHeader 0 = some 2 from by decide]
  rfl

theorem test_load_mbc1 : ∃ s, load (headerImage 0x03 0 0x03) = .ok s ∧ s.mbc = .mbc1 false 0 0 false ∧ s.ramBytes = 32768 :=
  ⟨_, load_headerImage (k := 0x03) (m := 0x03) (by decide) (by decide), rfl, rfl⟩

theorem test_load_mbc2_ignores_ram_code : ∃ s, load (headerImage 0x05 0 0xFF) = .ok s ∧ s.mbc = .mbc2 false 0 ∧ s.ramBytes = 512 :=
  ⟨_, load_headerImage (k := 0x05) (m := 0xFF) (by decide) (by decide), rfl, rfl⟩

theorem test_load_refuses_short : load [] = .error .imageLength := by decide

theorem test_load_refuses_type (r m : Byte) : load (headerImage 0xFF r m) = .error (.unrecognizedType 0xFF) := by
  obtain ⟨h1, h2, h3⟩ := headerImage_header 0xFF r m
  unfold load
  simp only [h1, headerImage_length, show mbcOfHeader 0xFF = none from by decide]
  rfl

/-- Meets `loads` of `Obligations.LoadContract` for each controller, at the ends of the type and RAM tables. -/
theorem witness_LoadContract : ∀ x ∈ [(0x00, 0x00), (0x09, 0x05), (0x01, 0x00), (0x03, 0x05), (0x05, 0xFF), (0x06, 0x00), (0x0F, 0x05), (0x13, 0x00)],
    let image := headerImage (BitVec.ofNat 8 x.1) 0 (BitVec.ofNat 8 x.2)
    let kind := (image.getD 0x147 0).toNat
    let romCode := (image.getD 0x148 0).toNat
    let ramCode := (image.getD 0x149 0).toNat
    0x14A ≤ image.length ∧ kind ∈ [0x00, 0x08, 0x09, 0x01, 0x02, 0x03, 0x05, 0x06, 0x0F, 0x10, 0x11, 0x12, 0x13] ∧
      romCode ≤ 8 ∧ image.length = 16384 * 2 ^ (romCode + 1) ∧ (kind ∈ [0x05, 0x06] ∨ ramCode ≤ 5) := by
  intro x hx
  obtain ⟨h1, h2, h3⟩ := headerImage_header (BitVec.ofNat 8 x.1) 0 (BitVec.ofNat 8 x.2)
  simp only [h1, h2, h3, headerImage_length]
  revert x
  decide +kernel

/-- Does not meet `loads` of `Obligations.LoadContract`. -/
theorem witness_LoadContract_fails : ¬ 0x14A ≤ ([] : List Byte).length := by decide

/-- Meets `Obligations.ResetState` and `Obligations.ResetMeetsInvariant`: a state that is loaded. -/
theorem witness_ResetState : ∃ image s, load image = .ok s := ⟨_, _, load_headerImage (k := 0) (m := 0) (mbc := .none) (n := 0) (by decide) (by decide)⟩

/-! ## The Bus at the ends of each range (20_memory.md R60, R63 to R77) -/

theorem test_bus_vram : (base []).locate 0x8000 = .cell .vram 0 ∧ (base []).locate 0x9FFF = .cell .vram 0x1FFF := by decide
theorem test_bus_wram0 : (base []).locate 0xC000 = .cell .wram0 0 ∧ (base []).locate 0xCFFF = .cell .wram0 0xFFF := by decide
theorem test_bus_wram1 : (base []).locate 0xD000 = .cell .wram1 0 ∧ (base []).locate 0xDFFF = .cell .wram1 0xFFF := by decide
theorem test_bus_echo : (base []).locate 0xE000 = .cell .wram0 0 ∧ (base []).locate 0xF000 = .cell .wram1 0 ∧
    (base []).locate 0xFDFF = .cell .wram1 0xDFF := by decide
theorem test_bus_oam : (base []).locate 0xFE00 = .cell .oam 0 ∧ (base []).locate 0xFE9F = .cell .oam 0x9F := by decide
theorem test_bus_unusable : (base []).locate 0xFEA0 = .unusable ∧ (base []).locate 0xFEFF = .unusable := by decide
theorem test_bus_ports : (base []).locate 0xFF00 = .port ∧ (base []).locate 0xFF0E = .port ∧ (base []).locate 0xFF0F = .ifPort ∧
    (base []).locate 0xFF10 = .port ∧ (base []).locate 0xFF7F = .port := by decide
theorem test_bus_hram : (base []).locate 0xFF80 = .cell .hram 0 ∧ (base []).locate 0xFFFE = .cell .hram 0x7E ∧
    (base []).locate 0xFFFF = .iePort := by decide
theorem test_bus_no_cart_ram : (base []).locate 0xA000 = .absent ∧ (base []).locate 0xBFFF = .absent := by decide
/-- V30 rows 1 to 4. -/
theorem test_V30_unusable : ((base []).memWrite 0xFEA0 0x12) = base [] := by decide
theorem test_V30_if : ((base []).memWrite 0xFF0F 0xFF).ifReg = 0x1F ∧ ((base []).memWrite 0xFF0F 0xFF).peek 0xFF0F = 0xFF ∧
    ((base []).memWrite 0xFF0F 0x00).peek 0xFF0F = 0xE0 := by decide
theorem test_V30_ie : ((base []).memWrite 0xFFFF 0xE5).peek 0xFFFF = 0xE5 ∧
    State.pending { (base []).memWrite 0xFFFF 0xE5 with ifReg := 0x1F } = 0x05 := by decide
/-- V30 last row, V6. -/
theorem test_V30_rom : ((baseAt 0x0150 [0x5A]).memWrite 0x0150 0xFF).peek 0x0150 = 0x5A := by decide
/-- V5. -/
theorem test_V5_echo : ((base []).memWrite 0xE000 0x5A).peek 0xC000 = 0x5A ∧ ((base []).memWrite 0xDDFF 0xA5).peek 0xFDFF = 0xA5 ∧
    ((base []).memWrite 0xD000 0x11).peek 0xF000 = 0x11 := by decide
/-- Writing a byte twice keeps one entry, and the entries stay sorted. -/
theorem test_mem_canonical : (((base []).memWrite 0xC005 1).memWrite 0xC002 2 |>.memWrite 0xC005 3).wram0 = [(2, 2), (5, 3)] := by decide
/-- A port write is handed to Env, and a port read asks it (R73). -/
theorem test_ports : ((base []).memWrite 0xFF01 0x41).ports = [.cpuWrite 0 0xFF01 0x41] ∧
    ((base []).memRead 0xFF01).2.ports = [.cpuRead 0 0xFF01] := by decide
/-- Env's own reads of a port are not idempotent, and Env changes I/O-port state (R8, R85): each is one event more. -/
theorem test_env_ports : ((base []).envActs [.busRead 0xFF04, .busRead 0xFF04]).ports = [.envRead 0 0xFF04, .envRead 0 0xFF04] ∧
    ((base []).envActs [.busWrite 0xFF7F 0x41, .portChange 3]).ports = [.envChange 0 3, .envWrite 0 0xFF7F 0x41] := by decide
/-- Env's accesses outside the ports: a read changes nothing, a write of `IF` raises requests (R8, R61). -/
theorem test_env_bus : (base []).envAct (.busRead 0xFF0F) = base [] ∧ ((base []).envAct (.busWrite 0xFF0F 0x04)).ifReg = 0x04 ∧
    ((base []).envAct (.busWrite 0x8000 0x77)).vram = [(0, 0x77)] := by decide

/-! ## The bank controllers (V31, V32, V33) -/

/-- MBC1 with 64 ROM banks and 32 KiB of RAM. -/
def m1 (en : Bool) (lo : BitVec 5) (hi : BitVec 2) (mode : Bool) : State :=
  { base [] with mbc := .mbc1 en lo hi mode, romBanks := 64, ramBytes := 32768 }
/-- MBC2 with 16 ROM banks. -/
def m2 (en : Bool) (bank : BitVec 4) : State := { base [] with mbc := .mbc2 en bank, romBanks := 16, ramBytes := 512 }
/-- MBC3 with 128 ROM banks and 32 KiB of RAM. -/
def m3 (en : Bool) (bank : BitVec 7) (sel : BitVec 4) : State :=
  { base [] with mbc := .mbc3 en bank sel, romBanks := 128, ramBytes := 32768 }
/-- The bank shown at `0x4000..0x7FFF`. -/
def shown (s : State) : Nat :=
  match s.locate 0x4000 with
  | .rom off => off / 16384
  | _ => 0

theorem test_V31_banks : shown (m1 false 0 0 false) = 0x01 ∧ shown (m1 false 0x1F 0 false) = 0x1F ∧ shown (m1 false 5 1 false) = 0x25 ∧
    shown (m1 false 0 1 false) = 0x21 ∧ shown (m1 false 0 3 false) = 0x21 ∧ shown (m1 false 0 3 true) = 0x01 := by decide
theorem test_V31_control : ((m1 false 3 0 false).memWrite 0x2000 0x20).mbc = .mbc1 false 0 0 false ∧
    ((m1 false 0 0 false).memWrite 0x3FFF 0xE5).mbc = .mbc1 false 5 0 false ∧ ((m1 false 5 0 false).memWrite 0x4000 0x01).mbc = .mbc1 false 5 1 false ∧
    ((m1 false 0 3 false).memWrite 0x6000 0x01).mbc = .mbc1 false 0 3 true ∧ ((m1 true 0 0 false).memWrite 0x1FFF 0x1A).mbc = .mbc1 true 0 0 false := by decide
theorem test_V31_ram : ((m1 false 0 0 false).memWrite 0xA000 0x11) = m1 false 0 0 false ∧ (m1 false 0 0 false).peek 0xA000 = 0xFF ∧
    ((m1 true 0 0 false).memWrite 0xA000 0x11).peek 0xA000 = 0x11 ∧ (m1 true 0 2 true).locate 0xA000 = .cell .cram 0x4000 ∧
    (m1 true 0 2 false).locate 0xBFFF = .cell .cram 0x1FFF := by decide
theorem test_V32 : ((m2 false 0).memWrite 0x0100 0x03).mbc = .mbc2 false 3 ∧ ((m2 false 3).memWrite 0x0000 0x0A).mbc = .mbc2 true 3 ∧
    ((m2 true 3).memWrite 0xA000 0xAB).cram = [(0, 0x0B)] ∧ ((m2 true 3).memWrite 0xA000 0xAB).peek 0xA200 = 0xFB ∧
    ((m2 true 3).memWrite 0x3F00 0x1F).mbc = .mbc2 true 0xF ∧ shown (m2 true 0) = 1 ∧ (m2 true 0).memWrite 0x4000 0x05 = m2 true 0 ∧
    (m2 true 0).memWrite 0x7FFF 0x05 = m2 true 0 := by decide
theorem test_V33 : shown (m3 false 0 0) = 1 ∧ shown (m3 false 0x20 0) = 0x20 ∧ ((m3 false 0 0).memWrite 0x2000 0xFF).mbc = .mbc3 false 0x7F 0 ∧
    (m3 true 0 3).locate 0xA000 = .cell .cram 0x6000 ∧ ((m3 true 0 8).memWrite 0xA000 0x3B).peek 0xA123 = 0x3B ∧
    (m3 true 0 5).memWrite 0xA000 0x77 = m3 true 0 5 ∧ (m3 true 0 5).peek 0xA000 = 0xFF ∧ (m3 true 0 5).memWrite 0x6000 1 = m3 true 0 5 := by decide
/-- Where the clauses of `Obligations.Mbc3Controller` on cartridge RAM meet. -/
theorem test_mbc3_ram_select_ends : (m3 true 0 4).locate 0xA000 = .absent ∧ (m3 true 0 7).locate 0xA000 = .absent ∧
    (m3 true 0 0xC).locate 0xBFFF = .cell .rtc 4 ∧ (m3 true 0 0xD).locate 0xA000 = .absent ∧ (m3 false 0 8).locate 0xA000 = .absent := by decide
/-- Each controller of `Obligations.NoneController` to `Obligations.Mbc3Controller`, and each case of `Obligations.BusRoundTrip`. -/
theorem witness_Controllers : (base []).mbc = .none ∧ (m1 true 1 2 true).mbc = .mbc1 true 1 2 true ∧ (m2 true 1).mbc = .mbc2 true 1 ∧
    (m3 true 1 8).mbc = .mbc3 true 1 8 := by decide
theorem witness_BusRoundTrip : ((m1 true 0 0 false).memWrite 0xBFFF 0x77).peek 0xBFFF = 0x77 ∧
    ((m3 true 0 0xC).memWrite 0xA000 0x77).peek 0xA000 = 0x77 ∧ ((m3 true 0 3).memWrite 0xBFFF 0x77).peek 0xBFFF = 0x77 ∧
    ({ base [] with ramBytes := 2048 }.memWrite 0xBFFF 0x77).peek 0xBFFF = 0x77 ∧ ((base []).memWrite 0x8000 0x77).peek 0x8000 = 0x77 ∧
    ((base []).memWrite 0xFE9F 0x77).peek 0xFE9F = 0x77 ∧ ((base []).memWrite 0xFFFF 0x77).peek 0xFFFF = 0x77 := by decide
/-- Env restores cartridge RAM within its size only (the clauses of `Obligations.EnvKeepsInvariant` on a restore, at their border). -/
theorem test_restoreCart : (m2 false 0).restoreCart 511 0xAB = { m2 false 0 with cram := [(511, 0x0B)] } ∧
    (m2 false 0).restoreCart 512 0xAB = m2 false 0 ∧
    (m1 false 0 0 false).restoreCart 32767 0xAB = { m1 false 0 0 false with cram := [(32767, 0xAB)] } ∧
    (m1 false 0 0 false).restoreCart 32768 0xAB = m1 false 0 0 false := by decide

/-! ## States and operands that meet the hypotheses of the other statements -/

theorem witness_EncodeUndoesDecode : decode [0xC3, 0x34, 0x12, 0x00] = .ok (.jpnn 0x1234, [0x00]) := by decide

theorem witness_StepRunsTheDecodedInstruction :
    let s := base [0x3E, 0x05]
    ¬ (s.ime = true ∧ s.pending ≠ 0) ∧ (s.run = .halted → s.pending ≠ 0) ∧
    decode (s.fetchBytes (opcodeLength (s.peek s.pc))).1 = .ok (.ldAn 0x05, []) ∧ Instr.WellFormed (.ldAn 0x05) := by decide

/-- The same where the instruction stands across the end of the address space and the machine wakes. -/
theorem witness_StepRunsTheDecodedInstruction_wraps :
    let s := { base [] with pc := 0xFFFF, ieReg := 0x01, ifReg := 0x01, run := .halted }
    s.pending ≠ 0 ∧ decode (s.fetchBytes (opcodeLength (s.peek s.pc))).1 = .ok (.ldBCnn 0x0000, []) := by decide

/-- The same where a byte comes from a port: `CP n` (`0xFE`) stands in `IF` at `0xFF0F`, its operand at the port `0xFF10`. -/
theorem witness_StepRunsTheDecodedInstruction_port :
    let s := { base [] with pc := 0xFF0F, ifReg := 0x1E }
    ¬ (s.ime = true ∧ s.pending ≠ 0) ∧ s.run = .running ∧
    decode (s.fetchBytes (opcodeLength (s.peek s.pc))).1 = .ok (.cpn (Config.portRead [] 0 0xFF10), []) ∧
    portsAfterFetch s 2 = [.cpuRead 0 0xFF10] := ⟨by decide, rfl, rfl, by decide⟩

theorem witness_StepIsTotalButForStop : ∃ u, (base [0x10]).boundary = .execute u ∧ u.peek u.pc = 0x10 ∧ u.stopBehaviour = .refuse :=
  ⟨base [0x10], by rw [boundary_running (by decide) (by decide)]; rfl, by decide, by decide⟩

theorem witness_StepIsTotalButForStop_goes_on : ¬ ∃ u, (base [0x00]).boundary = .execute u ∧ u.peek u.pc = 0x10 ∧ u.stopBehaviour = .refuse := by
  rintro ⟨u, h, h', _⟩
  rw [boundary_running (by decide) (by decide)] at h
  cases h
  revert h'
  decide

/-- Meets `Obligations.StepKeepsInvariant`, `StepNeverChangesCartridge`, `StepCyclesInValueSet`: a store to work RAM. -/
theorem witness_Step : (base [0xEA, 0x00, 0xC0]).Inv ∧ ∃ t, step (base [0xEA, 0x00, 0xC0]) = .next t ∧ t.wram0 = [(0, 0)] := by
  refine ⟨by decide, ?_⟩
  obtain ⟨t, h, p⟩ := next_of_after (r := step (base [0xEA, 0x00, 0xC0])) (p := fun t => t.wram0 == [(0, 0)]) (by decide)
  exact ⟨t, h, by simpa using p⟩

/-- Meets `Obligations.EnvKeepsInvariant`, with each action; the ends of the ports and the hole at `IF` among them. -/
theorem witness_EnvKeepsInvariant : (base []).Inv ∧
    ((base []).envActs [.busRead 0xFF00, .busRead 0xFF0E, .busRead 0xFF10, .busRead 0xFF7F]).ports =
      [.envRead 0 0xFF7F, .envRead 0 0xFF10, .envRead 0 0xFF0E, .envRead 0 0xFF00] ∧
    ((base []).envActs [.busRead 0xFEFF, .busWrite 0xFF0F 0x01, .busRead 0xFF80, .restoreCart 0 0x01]).ports = [] := by decide

/-- Both antecedents of `Obligations.OnlyTheOneShotEnables`. -/
theorem witness_OnlyTheOneShotEnables : (base [0xFB]).Inv ∧ (∃ t, step (base [0xFB]) = .next t ∧ t.imePending = true) ∧
    State.Inv { base [0x00] with imePending := true } ∧ ∃ t, step { base [0x00] with imePending := true } = .next t ∧ t.ime = true :=
  ⟨by decide, next_of_after (p := fun t => t.imePending) (by decide), by decide, next_of_after (p := fun t => t.ime) (by decide)⟩

/-- Both outcomes of `Obligations.OnlyHaltHalts`. -/
theorem witness_OnlyHaltHalts : (∃ t, step (base [0x76]) = .next t ∧ decide (t.run = .halted) = true) ∧
    ∃ t, step { base [] with run := .halted } = .next t ∧ decide (t.run = .halted) = true :=
  ⟨next_of_after (by decide), next_of_after (by decide)⟩

/-- The first and the last source of `Obligations.InterruptDispatch`. -/
theorem witness_InterruptDispatch :
    (let s := { base [] with ime := true, ifReg := 0x1F, ieReg := 0xFF };
      s.ime = true ∧ s.pending.getLsbD (0 : Fin 5).val = true ∧ ∀ j < (0 : Fin 5).val, s.pending.getLsbD j = false) ∧
    (let s := { base [] with ime := true, ifReg := 0x1F, ieReg := 0x10 };
      s.ime = true ∧ s.pending.getLsbD (4 : Fin 5).val = true ∧ ∀ j < (4 : Fin 5).val, s.pending.getLsbD j = false) := by decide

theorem witness_VBlankBeforeTimer :
    let s := { base [] with ime := true, ifReg := 0b00101, ieReg := 0x05 }
    s.ifReg = 0b00101 ∧ s.ieReg = 0x05 ∧ s.ime = true ∧ s.sp - 1 ≠ 0xFF0F ∧ s.sp - 2 ≠ 0xFF0F := by decide

theorem witness_HaltedTick :
    let s := { base [] with run := .halted, ifReg := 0x01 }
    s.run = .halted ∧ s.pending = 0 := by decide

theorem witness_PendingRequestWakes :
    (let s := { base [] with run := .halted, ifReg := 0x10, ieReg := 0x10 };
      s.run = .halted ∧ s.pending ≠ 0 ∧ s.ime = false) ∧
    (let s := { base [] with run := .halted, ifReg := 0x01, ieReg := 0x01, ime := true };
      s.run = .halted ∧ s.pending ≠ 0 ∧ s.ime = true) := by decide

theorem witness_EiDelaysOneInstruction :
    let s := base [0xFB, 0xF3]
    s.run = .running ∧ s.ime = false ∧ s.imePending = false ∧ s.peek s.pc = 0xFB := by decide

/-- Meets `Obligations.EiDiAtomic`, with an enabled request pending throughout. -/
theorem witness_EiDiAtomic :
    let s := { base [0xFB, 0xF3] with ifReg := 0x01, ieReg := 0x01 }
    s.run = .running ∧ s.ime = false ∧ s.imePending = false ∧ s.peek s.pc = 0xFB ∧
    ∃ t, step s = .next t ∧ decide (t.peek t.pc = 0xF3) = true :=
  ⟨by decide, by decide, by decide, by decide, next_of_after (by decide)⟩

theorem witness_EchoAliasesWorkRam : (0xE000 ≤ (0xE000 : Word).toNat ∧ (0xE000 : Word).toNat < 0xFE00) ∧
    0xE000 ≤ (0xFDFF : Word).toNat ∧ (0xFDFF : Word).toNat < 0xFE00 := by decide

/-- Both cases of `Obligations.PopLoadsThePair`, and the operations of the arithmetic statements. -/
theorem witness_PopLoadsThePair : StackPair.bc ≠ .af ∧ StackPair.af = .af := by decide
theorem witness_Alu : AluOp.adc ∈ [AluOp.add, .adc] ∧ AluOp.cp ∈ [AluOp.sub, .sbc, .cp] ∧ AluOp.or ∈ [AluOp.and, .xor, .or] := by decide

/-- Meets `Obligations.PushThenPop`: in work RAM, and across the border of two arrays. -/
theorem witness_PushThenPop :
    (let s := { base [] with sp := 0xD000 };
      s.f &&& 0x0F = 0 ∧ s.locate (s.sp - 1) = .cell .wram0 0xFFF ∧ s.locate (s.sp - 2) = .cell .wram0 0xFFE ∧
      (ArrayId.wram0, 0xFFF) ≠ (ArrayId.wram0, 0xFFE)) ∧
    (let s := { base [] with sp := 0xD001 };
      s.locate (s.sp - 1) = .cell .wram1 0 ∧ s.locate (s.sp - 2) = .cell .wram0 0xFFF) := by decide

theorem witness_DaaIsDecimal :
    let s := { base [] with a := 0x99 }
    s.a = bcd (99 : Fin 100).val := by decide
/-- 45 + 38 = 83 (V20). -/
theorem test_ADD_then_DAA : after (exec (.addAn 0x38) { base [] with a := 0x45 })
    (fun t => after (exec .daa t) (fun u => u.a == 0x83 && u.flagC == false)) = true := by decide

/-- A condition that holds and one that does not (`Obligations.Jumps`, `Calls`, `Returns`), for each flag. -/
theorem witness_conditions :
    (let s := { base [] with f := 0x90 };
      s.flagZ = true ∧ s.flagC = true) ∧ (let s := base [];
      s.flagZ = false ∧ s.flagC = false) := by decide

/-- The three kinds of value of `STOP_BEHAVIOUR` (`Obligations.StopIsTheBuildParameter`). -/
theorem witness_StopIsTheBuildParameter : (base []).stopBehaviour = .refuse ∧ State.stopBehaviour { base [] with stopBehaviour := .noop } = .noop ∧
    State.stopBehaviour { base [] with stopBehaviour := .step 0 } = .step 0 := by decide
/-- The `STOP` cases of `Obligations.StepCyclesInValueSet`, `OnlyTheOneShotEnables` and `OnlyHaltHalts`. -/
theorem witness_StopStep :
    let s := { base [0x10] with stopBehaviour := .step 2 }
    ∃ u, s.boundary = .execute u ∧ u.fetchInstr.1 = .stop ∧ u.stopBehaviour = .step 2 ∧
      step s = .next (u.fetchInstr.2.adoptStop (Config.stopStep 2 u.fetchInstr.2)) := by
  intro s
  have hb : s.boundary = .execute s := by rw [boundary_running (by decide) (by decide)]; rfl
  have hi : s.fetchInstr.1 = .stop := by decide
  have hk : s.fetchInstr.2.stopBehaviour = .step 2 := by decide
  exact ⟨s, hb, hi, rfl, by rw [step_execute hb, hi]; simp only [exec, execStop, hk]⟩
/-- A step function that halts in 8 cycles, skips the byte after the opcode and writes the divider port; the low nibble of `F` is dropped and
an armed one-shot is not kept (R23, R402). -/
theorem test_adoptStop :
    let x : StopEffect := { (default : StopEffect) with
      f := 0xFF, pc := 0x0102, run := .halted, imePending := true, accesses := [.write 0xFF04 0x00], cycles := 8 }
    let t := { base [0x10] with pc := 0x0101 }.adoptStop x
    t.f = 0xF0 ∧ t.pc = 0x0102 ∧ t.run = .halted ∧ t.imePending = false ∧ t.ports = [.cpuWrite 0 0xFF04 0x00] ∧ t.cycles = 8 ∧ t.Inv := by
  decide
theorem test_STOP_refused : stops (step (base [0x10])) .stopUnspecified = true := by decide
theorem test_STOP_noop : after (step { base [0x10] with stopBehaviour := .noop }) (fun t => t.pc == 0x0101 && t.cycles == 4) = true := by decide

theorem witness_NopAndIllegal : (Instr.nop, (0x00 : Byte)) ∈ [((Instr.nop, 0x00) : Instr × Byte), (.illegalFD, 0xFD)] := by decide

/-! ## The host's `withFetchWord` -/

theorem test_withFetchWord : after (step (State.reset.withFetchWord 16 0x053E)) (fun t => t.a == 0x05 && t.pc == 0x0102) = true := by decide
theorem test_withFetchWord_prefixed : after (step (State.reset.withFetchWord 16 0xCB37)) (fun t => t.a == 0x10 && t.pc == 0x0102) = true := by decide
end

section
/-! PROOFS. What Env may do between two steps (00_scope.md R8; 70_reset_and_hazards.md R452). -/

namespace Sys2Proof.Machine

/-! ## What one action of Env can be -/

/-- A Bus read by Env, by the number of its address (20_memory.md R73, R85). -/
theorem envAct_busRead (s : State) (addr : Word) :
    s.envAct (.busRead addr) =
      if 0xFF00 ≤ addr.toNat ∧ addr.toNat < 0xFF80 ∧ addr.toNat ≠ 0xFF0F then s.envPort (.envRead s.cycles addr) else s := by
  simp only [State.envAct, State.envRead, locate_eq_port_iff]

/-- A Bus write by Env, by the number of its address (20_memory.md R62, R73). -/
theorem envAct_busWrite (s : State) (addr : Word) (v : Byte) :
    s.envAct (.busWrite addr v) =
      if 0xFF00 ≤ addr.toNat ∧ addr.toNat < 0xFF80 ∧ addr.toNat ≠ 0xFF0F then s.envPort (.envWrite s.cycles addr v)
      else s.memWrite addr v := by
  simp only [State.envAct, State.envWrite, locate_eq_port_iff]

/-- Everything an action of Env can be: nothing, a record at the ports, the Bus write of the CPU, or a restore. -/
theorem envAct_cases (s : State) (act : EnvAct) :
    s.envAct act = s ∨ (∃ x, s.envAct act = s.envPort x) ∨ (∃ addr v, s.envAct act = s.memWrite addr v) ∨
    ∃ i v, s.envAct act = s.restoreCart i v := by
  cases act with
  | busRead addr =>
    rw [envAct_busRead]
    split
    · exact .inr (.inl ⟨_, rfl⟩)
    · exact .inl rfl
  | busWrite addr v =>
    rw [envAct_busWrite]
    split
    · exact .inr (.inl ⟨_, rfl⟩)
    · exact .inr (.inr (.inl ⟨addr, v, rfl⟩))
  | portChange k => exact .inr (.inl ⟨_, rfl⟩)
  | restoreCart i v => exact .inr (.inr (.inr ⟨i, v, rfl⟩))

/-! ## A restore of cartridge RAM -/

/-- A restore touches the array of cartridge RAM alone. -/
theorem restoreCart_eq_cram (s : State) (i : Nat) (v : Byte) :
    s.restoreCart i v = { s with cram := (s.restoreCart i v).cram } := by
  rw [restoreCart_eq]
  split <;> rfl

theorem and_low4_eq_byteOf (v : Byte) : v &&& 0x0F = byteOf (v.toNat % 16) :=
  BitVec.eq_of_toNat_eq (by rw [← lowNibble_eq v, lowNibble, byteOf, BitVec.ofNat_toNat, BitVec.setWidth_eq])

/-- Every element of every array after a restore within the size of cartridge RAM (log 25). -/
theorem restoreCart_readCell {s : State} {i : Nat} (h : i < s.cramSize) (v : Byte) (k : ArrayId) (j : Nat) :
    (s.restoreCart i v).readCell k j =
      if k = .cram ∧ j = i then (if mbcKind s.mbc = 2 then byteOf (v.toNat % 16) else v) else s.readCell k j := by
  rw [restoreCart_eq, if_pos h, readCell_writeCell, and_low4_eq_byteOf]

/-- A restore outside the size of cartridge RAM does nothing. -/
theorem restoreCart_outside {s : State} {i : Nat} (h : ¬ i < s.cramSize) (v : Byte) : s.restoreCart i v = s := by
  rw [restoreCart_eq, if_neg h]

/-! ## What every action keeps -/

theorem Keeps.envPort {s t : State} (h : Keeps s t) (x : PortEvent) : Keeps s (t.envPort x) :=
  h.trans (.of_registers rfl (fun k => by cases k <;> rfl) rfl ⟨rfl, rfl, rfl, rfl, rfl⟩ ⟨rfl, rfl, rfl⟩)

theorem Keeps.restoreCart {s t : State} (h : Keeps s t) (i : Nat) (v : Byte) : Keeps s (t.restoreCart i v) := by
  have hmem := fun hm : t.memOk = true => memOk_restoreCart hm i v
  rw [restoreCart_eq_cram] at hmem ⊢
  exact h.trans ⟨id, hmem, ⟨rfl, rfl, rfl, rfl, rfl⟩, rfl, ⟨rfl, rfl, rfl⟩⟩

theorem Keeps.envAct {s t : State} (h : Keeps s t) (act : EnvAct) : Keeps s (t.envAct act) := by
  obtain e | ⟨x, e⟩ | ⟨addr, v, e⟩ | ⟨i, v, e⟩ := envAct_cases t act <;> rw [e]
  · exact h
  · exact h.envPort x
  · exact h.memWrite addr v
  · exact h.restoreCart i v

theorem Keeps.envActs {s t : State} (h : Keeps s t) (acts : List EnvAct) : Keeps s (t.envActs acts) := by
  induction acts generalizing t with
  | nil => exact h
  | cons act acts ih => exact ih (h.envAct act)

/-- The invariant follows what keeps its clauses: the one-shot and the run state are among them. -/
theorem Keeps.inv {s t : State} (h : Keeps s t) (hs : s.Inv) : t.Inv := by
  obtain ⟨hf, hm, hp⟩ := hs
  obtain ⟨_, hpend, hrun⟩ := h.int
  exact ⟨h.low hf, h.mem hm, by rw [hpend, hrun]; exact hp⟩

/-- The register file (10_state.md R22): the 8-bit registers, `F`, `SP` and `PC`. -/
def SameRegisters (s t : State) : Prop :=
  (∀ r, t.reg r = s.reg r) ∧ t.f = s.f ∧ t.sp = s.sp ∧ t.pc = s.pc

theorem SameRegisters.refl (s : State) : SameRegisters s s := ⟨fun _ => rfl, rfl, rfl, rfl⟩

theorem SameRegisters.trans {s t u : State} (h : SameRegisters s t) (k : SameRegisters t u) : SameRegisters s u := by
  obtain ⟨hr, hf, hsp, hpc⟩ := h
  obtain ⟨kr, kf, ksp, kpc⟩ := k
  exact ⟨fun r => (kr r).trans (hr r), kf.trans hf, ksp.trans hsp, kpc.trans hpc⟩

theorem sameRegisters_envPort (s : State) (x : PortEvent) : SameRegisters s (s.envPort x) :=
  ⟨fun r => by cases r <;> rfl, rfl, rfl, rfl⟩

theorem sameRegisters_memWrite (s : State) (addr : Word) (v : Byte) : SameRegisters s (s.memWrite addr v) :=
  ⟨s.reg_memWrite addr v, s.memWrite_f addr v, s.memWrite_sp addr v, s.memWrite_pc addr v⟩

theorem sameRegisters_restoreCart (s : State) (i : Nat) (v : Byte) : SameRegisters s (s.restoreCart i v) := by
  rw [restoreCart_eq_cram]
  exact ⟨fun r => by cases r <;> rfl, rfl, rfl, rfl⟩

theorem sameRegisters_envAct (s : State) (act : EnvAct) : SameRegisters s (s.envAct act) := by
  obtain e | ⟨x, e⟩ | ⟨addr, v, e⟩ | ⟨i, v, e⟩ := envAct_cases s act <;> rw [e]
  · exact .refl s
  · exact sameRegisters_envPort s x
  · exact sameRegisters_memWrite s addr v
  · exact sameRegisters_restoreCart s i v

theorem sameRegisters_envActs (s : State) (acts : List EnvAct) : SameRegisters s (s.envActs acts) := by
  induction acts generalizing s with
  | nil => exact .refl s
  | cons act acts ih => exact (sameRegisters_envAct s act).trans (ih _)

/-- Settles O8: what an action can be (`envAct_cases`), and by induction on the actions what all of them keep. -/
theorem envKeepsInvariant : Obligations.EnvKeepsInvariant := by
  unfold Obligations.EnvKeepsInvariant
  refine ⟨fun s acts hs => ?_, fun s addr v k => ?_, fun s i v => ?_⟩
  · have hk := (Keeps.refl s).envActs acts
    obtain ⟨hr, hf, hsp, hpc⟩ := sameRegisters_envActs s acts
    exact ⟨hk.inv hs, hr, hf, hsp, hpc, hk.int, hk.build⟩
  · exact ⟨rfl, envAct_busRead s addr, envAct_busWrite s addr v, rfl⟩
  · dsimp only
    rw [← cramSize_eq]
    split
    · next h => exact ⟨restoreCart_eq_cram s i v, restoreCart_readCell h v⟩
    · next h => exact restoreCart_outside h v

end Sys2Proof.Machine
end

section
/-! PROOFS. The step by its phases: what every step keeps, what it does to the interrupt state, and that it runs the instruction fetched at `PC`
(10_state.md R26 to R29; 60_exceptions.md R400 to R406). -/

namespace Sys2Proof.Machine

/-! ## What a phase keeps, whatever it does to the interrupt state -/

/-- `Keeps` without the interrupt state: the invariant's clauses on `F` and memory, the cartridge, the kind of controller. -/
structure KeepsMachine (s t : State) : Prop where
  low : s.f &&& 0x0F = 0 → t.f &&& 0x0F = 0
  mem : s.memOk = true → t.memOk = true
  build : SameBuild s t
  kind : mbcKind t.mbc = mbcKind s.mbc

theorem Keeps.machine {s t : State} (h : Keeps s t) : KeepsMachine s t := ⟨h.low, h.mem, h.build, h.kind⟩

theorem ExecEffect.machine {i : Instr} {s t : State} (h : ExecEffect i s t) : KeepsMachine s t := ⟨h.low, h.mem, h.build, h.kind⟩

theorem KeepsMachine.trans {s t u : State} (h : KeepsMachine s t) (k : KeepsMachine t u) : KeepsMachine s u := by
  obtain ⟨h1, h2, ⟨b1, b2, b3, b4, b5⟩, h4⟩ := h
  obtain ⟨k1, k2, ⟨c1, c2, c3, c4, c5⟩, k4⟩ := k
  exact ⟨k1 ∘ h1, k2 ∘ h2, ⟨c1.trans b1, c2.trans b2, c3.trans b3, c4.trans b4, c5.trans b5⟩, k4.trans h4⟩

/-- A change of neither `F`, nor an array, nor the bank controller, nor the cartridge. -/
theorem KeepsMachine.of_same {s t : State} (hf : t.f = s.f) (ha : ∀ k, t.array k = s.array k) (hm : t.mbc = s.mbc)
    (hb : SameBuild s t) : KeepsMachine s t :=
  ⟨fun h => hf ▸ h, fun h => (memOk_congr ha hm hb.2.2.1).trans h, hb, congrArg mbcKind hm⟩

/-- The state the execute phase starts from: awake, the one-shot consumed (60_exceptions.md R401, R402). -/
def State.awake (s : State) : State := { s with run := .running, ime := s.ime || s.imePending, imePending := false }

theorem keepsMachine_awake (s : State) : KeepsMachine s s.awake :=
  .of_same rfl (fun k => by cases k <;> rfl) rfl ⟨rfl, rfl, rfl, rfl, rfl⟩

/-- Taking an interrupt is a push of `PC` and a change of the interrupt state (60_exceptions.md R405). -/
theorem keepsMachine_takeInterrupt (s : State) (i : Nat) :
    KeepsMachine s ({ s with run := .running }.takeInterrupt i) := by
  rw [takeInterrupt_eq]
  exact ((Keeps.refl s).push16 s.pc).machine.trans (.of_same rfl (fun k => by cases k <;> rfl) rfl ⟨rfl, rfl, rfl, rfl, rfl⟩)

/-- A fetch changes `PC` and the port record alone, so it keeps all that an instruction may keep. -/
theorem keeps_fetchInstr (s : State) : Keeps s s.fetchInstr.2 := by
  obtain ⟨n, p, e⟩ := fetchInstr_state s
  rw [e]
  exact .of_registers rfl (fun k => by cases k <;> rfl) rfl ⟨rfl, rfl, rfl, rfl, rfl⟩ ⟨rfl, rfl, rfl⟩

/-! ## What one step can do -/

/-- The three ways a step ends (60_exceptions.md R400): an interrupt dispatched, a tick in the halted state, an instruction executed. -/
inductive StepEffect (s t : State) : Prop where
  | dispatched (hime : s.ime = true) (hpend : s.pending ≠ 0)
      (ht : t = { s with run := .running }.takeInterrupt (lowestSet s.pending))
  | idled (hrun : s.run = .halted) (hpend : s.pending = 0) (ht : t = s.tick 4)
  | executed (hb : s.boundary = .execute s.awake) (he : ExecEffect s.awake.fetchInstr.1 s.awake.fetchInstr.2 t)

/-- Every step with a next state ends in one of the three ways. -/
theorem step_effect {s t : State} (h : step s = .next t) : StepEffect s t := by
  obtain ⟨hime, hpend, _⟩ | ⟨hrun, hpend, hb⟩ | ⟨_, _, hb⟩ := boundary_cases s
  · rw [step_finished (boundary_dispatch hime hpend)] at h
    cases h
    exact .dispatched hime hpend rfl
  · rw [step_finished hb] at h
    cases h
    exact .idled hrun hpend rfl
  · exact .executed hb (exec_effect ((step_execute hb).symm.trans h))

/-- Every step keeps the clauses of the invariant on `F` and memory, the cartridge and the kind of controller. -/
theorem step_keepsMachine {s t : State} (h : step s = .next t) : KeepsMachine s t := by
  cases step_effect h with
  | dispatched _ _ ht => rw [ht]; exact keepsMachine_takeInterrupt s _
  | idled _ _ ht => rw [ht]; exact ((Keeps.refl s).tick 4).machine
  | executed _ he => exact (keepsMachine_awake s).trans ((keeps_fetchInstr _).machine.trans he.machine)

/-! ## What the execute phase does to the interrupt state -/

/-- What the execute phase may leave of the interrupt state, for the instruction `i` executed in the state `u`. -/
structure InterruptsAfter (i : Instr) (u t : State) : Prop where
  ime : t.ime = true → u.ime = true
  armed : t.imePending = true → (i = .ei ∨ i = .reti) ∧ t.run = .running
  halted : t.run = .halted → i = .halt

/-- From a running machine with no armed one-shot: `STOP` under a step function apart, no instruction sets `IME`, `EI` and `RETI` arm the
one-shot and leave the machine running, and `HALT` halts it (10_state.md R27 to R29). -/
theorem ExecEffect.interruptsAfter {i : Instr} {u t : State} (h : ExecEffect i u t) (hp : u.imePending = false)
    (hr : u.run = .running) :
    (i = .stop ∧ ∃ k, u.stopBehaviour = .step k ∧ t = u.adoptStop (Config.stopStep k u)) ∨ InterruptsAfter i u t := by
  obtain ⟨_, _, _, _, e1, e2, e3⟩ | ⟨rfl, e1, e2, _⟩ | ⟨rfl, e1, e2, e3⟩ | ⟨hi, e1, _, e3⟩ | hstop := h.int
  · exact .inr ⟨fun x => by rwa [e1] at x, fun x => by simp [e2, hp] at x, fun x => by simp [e3, hr] at x⟩
  · exact .inr ⟨fun x => by rwa [e1] at x, fun x => by simp [e2, hp] at x, fun _ => rfl⟩
  · exact .inr ⟨fun x => by simp [e1] at x, fun x => by simp [e2, hp] at x, fun x => by simp [e3, hr] at x⟩
  · exact .inr ⟨fun x => by rwa [e1] at x, fun _ => ⟨hi, e3.trans hr⟩, fun x => by simp [e3, hr] at x⟩
  · exact .inl hstop

/-- The same for the execute phase of a step: the fetch comes from `s.awake` and leaves its interrupt state and build alone. -/
theorem execute_interruptsAfter {s t : State} (h : ExecEffect s.awake.fetchInstr.1 s.awake.fetchInstr.2 t) :
    (s.awake.fetchInstr.1 = .stop ∧ ∃ k, s.awake.stopBehaviour = .step k ∧
      t = s.awake.fetchInstr.2.adoptStop (Config.stopStep k s.awake.fetchInstr.2)) ∨
    InterruptsAfter s.awake.fetchInstr.1 s.awake t := by
  have hf := keeps_fetchInstr s.awake
  obtain ⟨hime, hpend, hrun⟩ := hf.int
  obtain ⟨_, _, _, _, hstop⟩ := hf.build
  obtain ⟨hi, k, hk, ht⟩ | hint := h.interruptsAfter hpend hrun
  · exact .inl ⟨hi, k, hstop ▸ hk, ht⟩
  · exact .inr ⟨fun x => hime ▸ hint.ime x, hint.armed, hint.halted⟩

/-! ## The obligations on every step -/

/-- The one-shot is never left armed in a halted machine (60_exceptions.md R402). -/
theorem step_armed_running {s t : State} (hs : s.imePending = true → s.run = .running) (h : step s = .next t) :
    t.imePending = true → t.run = .running := by
  cases step_effect h with
  | dispatched _ _ ht => rw [ht, takeInterrupt_eq]; exact fun _ => rfl
  | idled _ _ ht => rw [ht]; exact hs
  | executed _ he =>
    obtain ⟨_, k, _, ht⟩ | hint := execute_interruptsAfter he
    · obtain ⟨_, _, _, _, hrun, _⟩ := adoptStop_spec s.awake.fetchInstr.2 (Config.stopStep k s.awake.fetchInstr.2)
      rw [ht]; exact hrun
    · exact fun x => (hint.armed x).2

/-- Settles O7: `F` and memory by `step_keepsMachine`, the one-shot by `step_armed_running`. -/
theorem stepKeepsInvariant : Obligations.StepKeepsInvariant := by
  unfold Obligations.StepKeepsInvariant
  intro s t ⟨hlow, hmem, harmed⟩ h
  have hk := step_keepsMachine h
  exact ⟨hk.low hlow, hk.mem hmem, step_armed_running harmed h⟩

/-- Settles O9: the cartridge is among what every phase keeps. -/
theorem stepNeverChangesCartridge : Obligations.StepNeverChangesCartridge := by
  unfold Obligations.StepNeverChangesCartridge
  intro s t h
  have hk := step_keepsMachine h
  exact ⟨hk.build, hk.kind⟩

/-- Settles O11, by the three ways a step ends; an idle tick arms nothing, since the invariant has no armed one-shot in the halted state. -/
theorem onlyTheOneShotEnables : Obligations.OnlyTheOneShotEnables := by
  unfold Obligations.OnlyTheOneShotEnables
  intro s t ⟨_, _, harmed⟩ h
  cases step_effect h with
  | dispatched hime _ ht =>
    rw [ht, takeInterrupt_eq]
    exact .inr ⟨fun _ => .inl hime, fun x => nomatch x⟩
  | idled hrun _ ht =>
    rw [ht]
    exact .inr ⟨.inl, fun x => nomatch (harmed x).symm.trans hrun⟩
  | executed hb he =>
    obtain ⟨hi, k, hk, _⟩ | hint := execute_interruptsAfter he
    · exact .inl ⟨_, k, hb, hi, hk⟩
    · refine .inr ⟨fun x => ?_, fun x => ⟨_, hb, (hint.armed x).1⟩⟩
      have hime : (s.ime || s.imePending) = true := hint.ime x
      simpa using hime

/-- Settles O12, by the three ways a step ends. -/
theorem onlyHaltHalts : Obligations.OnlyHaltHalts := by
  unfold Obligations.OnlyHaltHalts
  intro s t h hhalt
  cases step_effect h with
  | dispatched _ _ ht =>
    rw [ht, takeInterrupt_eq] at hhalt
    exact nomatch hhalt
  | idled hrun hpend ht => exact .inl ⟨hrun, hpend, ht⟩
  | executed hb he =>
    obtain ⟨hi, k, hk, ht⟩ | hint := execute_interruptsAfter he
    · rw [ht] at hhalt
      exact .inr (.inr ⟨_, k, hb, hi, hk, hhalt⟩)
    · exact .inr (.inl ⟨_, hb, hint.halted hhalt⟩)

/-! ## The bytes fetched at `PC` -/

/-- The machine's fetch against the decoder: the instruction fetched is what the bytes at `PC` decode to, with nothing left; they are its encoding,
and the state after it is the one after these bytes (30_encoding.md R130, R144; log 12). -/
theorem fetchInstr_spec (u : State) :
    let f := u.fetchBytes (opcodeLength (u.peek u.pc))
    decode f.1 = .ok (u.fetchInstr.1, []) ∧ encode u.fetchInstr.1 = f.1 ∧ u.fetchInstr.2 = f.2 := by
  have hop : u.fetch8.1 = u.peek u.pc := rfl
  unfold State.fetchInstr
  rw [← hop]
  obtain ⟨hf, h⟩ | ⟨hf, h⟩ | ⟨hf, h⟩ | ⟨hf, h⟩ := opcodeFormat_cases u.fetch8.1 <;>
    simp only [hf, opcodeLength, State.fetchBytes, decode, and_true, true_and]
  · rw [encode_decodeSecondary, h]
  · exact encode_decodePrimary_f1 _ h
  · exact encode_decodePrimary_f2 _ _ h
  · exact encode_decodePrimary_f0 _ hf

/-- Where no byte is a port's, fetching leaves the port record as it was. -/
theorem portsAfterFetch_eq {u : State} {n : Nat} (h : ∀ k < n, u.locate (u.pc + BitVec.ofNat 16 k) ≠ .port) :
    portsAfterFetch u n = u.ports := by
  induction n with
  | zero => rfl
  | succ n ih =>
    have hn : State.locate { u with ports := portsAfterFetch u n } (u.pc + BitVec.ofNat 16 n) ≠ .port := h n (Nat.lt_succ_self n)
    rw [portsAfterFetch, portsAfterRead, if_neg hn]
    exact ih fun k hk => h k (Nat.lt_succ_of_lt hk)

/-- A byte that is no port's does not depend on the port record. -/
theorem peek_ports {u : State} {addr : Word} (h : u.locate addr ≠ .port) (p : List PortEvent) :
    State.peek { u with ports := p } addr = u.peek addr :=
  peek_congr (s := u) (t := { u with ports := p }) (fun k => by cases k <;> rfl) rfl rfl rfl h

/-- Where no interrupt is dispatched and the machine does not stay halted, the execute phase is reached. -/
theorem boundary_awake {s : State} (h1 : ¬ (s.ime = true ∧ s.pending ≠ 0)) (h2 : s.run = .halted → s.pending ≠ 0) :
    s.boundary = .execute s.awake := by
  obtain ⟨hime, hpend, _⟩ | ⟨hrun, hpend, _⟩ | ⟨_, _, hb⟩ := boundary_cases s
  · exact absurd ⟨hime, hpend⟩ h1
  · exact absurd hpend (h2 hrun)
  · exact hb

/-- Settles O5: the fetch is the decoder's (`fetchInstr_spec`), and `fetchBytes_spec` says what it changes. -/
theorem stepRunsTheDecodedInstruction : Obligations.StepRunsTheDecodedInstruction := by
  unfold Obligations.StepRunsTheDecodedInstruction
  intro s i h1 h2 u f hdec _
  have hb : s.boundary = .execute u := boundary_awake h1 h2
  obtain ⟨hd, henc, hstate⟩ : decode f.1 = .ok (u.fetchInstr.1, []) ∧ encode u.fetchInstr.1 = f.1 ∧ u.fetchInstr.2 = f.2 :=
    fetchInstr_spec u
  obtain rfl : i = u.fetchInstr.1 := by
    rw [hd] at hdec
    cases hdec
    rfl
  obtain ⟨hafter, hlen, hbytes⟩ : _ ∧ f.1.length = _ ∧ _ := fetchBytes_spec u (opcodeLength (u.peek u.pc))
  rw [henc, hlen]
  refine ⟨by rw [step_execute hb, hstate], hafter, rfl, hbytes, fun k hk hp => ?_, fun hp => ?_⟩
  · exact (hbytes k hk).trans (congrArg some (peek_ports hp _))
  · exact (congrArg State.ports hafter).trans (portsAfterFetch_eq hp)

end Sys2Proof.Machine
end

section
/-! PROOFS. The Bus range by range: where each range leads, and what a read and a write do there (20_memory.md R60 to R77). -/

namespace Sys2Proof.Machine

/-! ## Where each range leads -/

section
variable (s : State) {addr : Word}

theorem locate_vram (h1 : 0x8000 ≤ addr.toNat) (h2 : addr.toNat < 0xA000) :
    s.locate addr = .cell .vram (addr.toNat - 0x8000) := by
  simp (disch := omega) only [State.locate, region, if_pos, if_neg]

theorem locate_cartRam (h1 : 0xA000 ≤ addr.toNat) (h2 : addr.toNat < 0xC000) :
    s.locate addr = mbcRamLoc s.mbc s.ramBytes addr := by
  simp (disch := omega) only [State.locate, region, if_pos, if_neg]

theorem locate_wram (h1 : 0xC000 ≤ addr.toNat) (h2 : addr.toNat < 0xE000) : s.locate addr = wramLoc addr.toNat := by
  by_cases h : addr.toNat < 0xD000 <;> simp (disch := omega) only [State.locate, region, if_pos, if_neg]

theorem locate_echo (h1 : 0xE000 ≤ addr.toNat) (h2 : addr.toNat < 0xFE00) : s.locate addr = wramLoc (addr.toNat - 0x2000) := by
  simp (disch := omega) only [State.locate, region, if_pos, if_neg]

theorem locate_oam (h1 : 0xFE00 ≤ addr.toNat) (h2 : addr.toNat < 0xFEA0) : s.locate addr = .cell .oam (addr.toNat - 0xFE00) := by
  simp (disch := omega) only [State.locate, region, if_pos, if_neg]

theorem locate_unusable (h1 : 0xFEA0 ≤ addr.toNat) (h2 : addr.toNat < 0xFF00) : s.locate addr = .unusable := by
  simp (disch := omega) only [State.locate, region, if_pos, if_neg]

theorem locate_ifPort (h : addr.toNat = 0xFF0F) : s.locate addr = .ifPort := by
  simp (disch := omega) only [State.locate, region, if_pos, if_neg]

theorem locate_hram (h1 : 0xFF80 ≤ addr.toNat) (h2 : addr.toNat < 0xFFFF) : s.locate addr = .cell .hram (addr.toNat - 0xFF80) := by
  simp (disch := omega) only [State.locate, region, if_pos, if_neg]

theorem locate_iePort (h : addr.toNat = 0xFFFF) : s.locate addr = .iePort := by
  simp (disch := omega) only [State.locate, region, if_neg]

end

/-- Work RAM has a byte behind every address. -/
theorem wramLoc_cell (n : Nat) : ∃ k i, wramLoc n = .cell k i := by
  unfold wramLoc
  split <;> exact ⟨_, _, rfl⟩

/-! ## What a read returns and a write does at a location -/

section
variable {s : State} {addr : Word}

theorem peek_of_locate {loc : Loc} (h : s.locate addr = loc) : s.peek addr = s.readLoc loc addr := by rw [State.peek, h]

theorem memWrite_of_locate {loc : Loc} (h : s.locate addr = loc) (v : Byte) : s.memWrite addr v = s.writeLoc loc addr v := by
  rw [State.memWrite, h]

theorem bus_cell {k : ArrayId} {i : Nat} (h : s.locate addr = .cell k i) (v : Byte) :
    s.peek addr = s.readCell k i ∧ s.memWrite addr v = s.writeCell k i v :=
  ⟨peek_of_locate h, memWrite_of_locate h v⟩

theorem bus_absent (h : s.locate addr = .absent) (v : Byte) : s.peek addr = 0xFF ∧ s.memWrite addr v = s :=
  ⟨peek_of_locate h, memWrite_of_locate h v⟩

/-- `IF` reads with its three upper bits as ones, and stores five bits (20_memory.md R74). -/
theorem bus_ifPort (h : s.locate addr = .ifPort) (v : Byte) :
    (s.peek addr).toNat = 0xE0 + s.ifReg.toNat ∧ s.memWrite addr v = { s with ifReg := BitVec.ofNat 5 v.toNat } := by
  refine ⟨?_, (memWrite_of_locate h v).trans (by rw [State.writeLoc, BitVec.ofNat_toNat])⟩
  have hlt : s.ifReg.toNat < 2 ^ 5 := s.ifReg.isLt
  rw [peek_of_locate h, State.readLoc, BitVec.toNat_or, BitVec.toNat_setWidth, Nat.mod_eq_of_lt (by omega)]
  exact (Nat.two_pow_add_eq_or_of_lt hlt 7).symm

/-- A byte written through one address is read through every address that leads to the same cell. -/
theorem peek_memWrite_of_cell {a : Word} {k : ArrayId} {i : Nat} (h : s.locate addr = .cell k i)
    (ha : s.locate a = .cell k i) (v : Byte) : (s.memWrite addr v).peek a = v := by
  have hloc : (s.writeCell k i v).locate a = .cell k i :=
    (locate_congr (s.writeCell_mbc k i v) (s.setArray_romBanks k _) (s.setArray_ramBytes k _) a).trans ha
  rw [memWrite_of_locate h, State.writeLoc, peek_of_locate hloc, State.readLoc, readCell_writeCell, if_pos ⟨rfl, rfl⟩]

/-- The byte of `IE` reads back (20_memory.md R76). -/
theorem peek_memWrite_of_iePort (h : s.locate addr = .iePort) (v : Byte) : (s.memWrite addr v).peek addr = v := by
  have hloc : { s with ieReg := v }.locate addr = .iePort := h
  rw [memWrite_of_locate h, State.writeLoc, peek_of_locate hloc, State.readLoc]

end

/-- A read leaves a record where the address is a port's, and changes nothing elsewhere (20_memory.md R61, R73; log 7). -/
theorem noteRead_eq (s : State) (addr : Word) :
    s.noteRead addr = if s.locate addr = .port then { s with ports := .cpuRead s.cycles addr :: s.ports } else s := by
  unfold State.noteRead
  split
  · next h => rw [if_pos h]
  · next h => rw [if_neg h]

/-! ## The obligations on the Bus -/

/-- Settles O22: each clause is where its range leads, then what a read and a write do at that location. -/
theorem busByRange : Obligations.BusByRange := by
  unfold Obligations.BusByRange
  intro s addr v
  dsimp only
  refine ⟨fun h1 h2 => bus_cell (locate_vram s h1 h2) v,
    fun h1 h2 => bus_cell ((locate_wram s h1 (by omega)).trans (if_pos h2)) v,
    fun h1 h2 => bus_cell ((locate_wram s (by omega) h2).trans (if_neg (by omega))) v,
    fun h1 h2 => bus_cell (locate_oam s h1 h2) v, fun h1 h2 => ?_, fun h1 h2 h3 => ?_,
    fun h => bus_ifPort (locate_ifPort s h) v, fun h1 h2 => bus_cell (locate_hram s h1 h2) v, fun h => ?_, rfl, ?_⟩
  · have hloc := locate_unusable s h1 h2
    exact ⟨peek_of_locate hloc, memWrite_of_locate hloc v⟩
  · have hloc := (locate_eq_port_iff s addr).mpr ⟨h1, h2, h3⟩
    exact ⟨peek_of_locate hloc, memWrite_of_locate hloc v⟩
  · have hloc := locate_iePort s h
    exact ⟨peek_of_locate hloc, memWrite_of_locate hloc v⟩
  · simp only [State.memRead, noteRead_eq, locate_eq_port_iff]

/-- Settles O23: an echo address and the one 0x2000 below it lead to the same cell of work RAM. -/
theorem echoAliasesWorkRam : Obligations.EchoAliasesWorkRam := by
  unfold Obligations.EchoAliasesWorkRam
  intro s addr v h1 h2
  obtain ⟨k, i, hcell⟩ := wramLoc_cell (addr.toNat - 0x2000)
  have hsub : (addr - 0x2000).toNat = addr.toNat - 0x2000 := by bv_omega
  have hecho : s.locate addr = .cell k i := (locate_echo s h1 h2).trans hcell
  have hwram : s.locate (addr - 0x2000) = .cell k i := by rw [locate_wram s (by omega) (by omega), hsub, hcell]
  obtain ⟨hr, hw⟩ := bus_cell hecho v
  obtain ⟨hr', hw'⟩ := bus_cell hwram v
  exact ⟨hr.trans hr'.symm, hw.trans hw'.symm, peek_memWrite_of_cell hecho hwram v,
    peek_memWrite_of_cell hwram hecho v⟩

end Sys2Proof.Machine
end

section
/-! PROOFS. The bank controllers: control writes, the ROM windows and cartridge RAM, variant by variant (20_memory.md R105 to R118). -/

namespace Sys2Proof.Machine

theorem enablesRam_eq (v : Byte) : enablesRam v = decide (v.toNat % 16 = 0xA) := by
  rw [enablesRam, beq_eq_decide, decide_eq_decide, ← BitVec.toNat_inj, BitVec.toNat_setWidth]
  rfl

/-- A bit by number, as MBC1's mode (20_memory.md R107) and MBC2's address bit 8 (R113) are told. -/
theorem getLsbD_eq_decide {w : Nat} (x : BitVec w) (i : Nat) : x.getLsbD i = decide (x.toNat / 2 ^ i % 2 = 1) :=
  Nat.testBit_eq_decide_div_mod_eq

/-! ## Control writes and the ROM windows -/

section
variable {s : State} {addr : Word}

/-- Below 0x8000 a write goes to the MBC registers alone (20_memory.md R64). -/
theorem memWrite_control {m : Mbc} (hm : s.mbc = m) (h : addr.toNat < 0x8000) (v : Byte) :
    s.memWrite addr v = { s with mbc := mbcControl m addr v } := by
  rw [memWrite_of_locate (locate_rom h), State.writeLoc, hm]

/-- A control write that leaves the registers as they are changes nothing. -/
theorem memWrite_control_same {m : Mbc} (hm : s.mbc = m) (h : addr.toNat < 0x8000) {v : Byte} (hc : mbcControl m addr v = m) :
    s.memWrite addr v = s := by
  rw [memWrite_control hm h, hc, ← hm]

/-- Below 0x8000 a read shows the image at the offset of the MBC (20_memory.md R63). -/
theorem peek_rom {m : Mbc} (hm : s.mbc = m) (h : addr.toNat < 0x8000) :
    s.peek addr = s.readCell .rom (romOffset m s.romBanks addr) := by
  rw [peek_of_locate (locate_rom h), State.readLoc, hm]

/-- With a controller, `0x0000..0x3FFF` shows bank 0. -/
theorem peek_romFixed {m : Mbc} (hm : s.mbc = m) (hne : m ≠ .none) (h : addr.toNat < 0x4000) :
    s.peek addr = s.readCell .rom addr.toNat := by
  rw [peek_rom hm (by omega)]
  cases m with
  | none => exact absurd rfl hne
  | _ => exact congrArg _ (if_pos h)

/-- With a controller, `0x4000..0x7FFF` shows the selected bank, reduced modulo the number of banks (20_memory.md R105). -/
theorem peek_romBanked {m : Mbc} (hm : s.mbc = m) (hne : m ≠ .none) (h1 : 0x4000 ≤ addr.toNat) (h2 : addr.toNat < 0x8000) :
    s.peek addr = s.readCell .rom (16384 * (mbcRomBank m % s.romBanks) + (addr.toNat - 0x4000)) := by
  rw [peek_rom hm h2]
  cases m with
  | none => exact absurd rfl hne
  | _ => exact congrArg _ (if_neg (by omega))

/-! ## Cartridge RAM -/

theorem cramLoc_of_pos {n : Nat} (h : 0 < n) (bank off : Nat) : cramLoc n bank off = .cell .cram ((8192 * bank + off) % n) :=
  if_neg (by omega)

theorem cramLoc_of_zero {n : Nat} (h : n = 0) (bank off : Nat) : cramLoc n bank off = .absent := if_pos h

/-- In `0xA000..0xBFFF` an address leads where the MBC says. -/
theorem locate_mbcRam {m : Mbc} (hm : s.mbc = m) (h1 : 0xA000 ≤ addr.toNat) (h2 : addr.toNat < 0xC000) :
    s.locate addr = mbcRamLoc m s.ramBytes addr := by rw [locate_cartRam s h1 h2, hm]

/-- A cell of MBC2's built-in RAM: four bits, the upper ones read as ones (20_memory.md R114). -/
theorem bus_nibble {i : Nat} (h : s.locate addr = .nibble i) (v : Byte) :
    s.peek addr = 0xF0 ||| s.readCell .cram i ∧ s.memWrite addr v = s.writeCell .cram i (BitVec.ofNat 8 (v.toNat % 16)) :=
  ⟨peek_of_locate h, by rw [memWrite_of_locate h, State.writeLoc, and_low4_eq_byteOf, byteOf]⟩

end

/-! ## The obligations on the controllers -/

/-- Settles O25: the image and cartridge RAM are flat, and no write changes a register. -/
theorem noneController : Obligations.NoneController := by
  unfold Obligations.NoneController
  intro s addr v hm
  dsimp only
  refine ⟨fun h => ⟨peek_rom hm h, memWrite_control_same hm h rfl⟩, fun h1 h2 => ?_⟩
  have hloc : s.locate addr = cramLoc s.ramBytes 0 (addr.toNat - 0xA000) := locate_mbcRam hm h1 h2
  split
  · next h => exact bus_absent (hloc.trans (cramLoc_of_zero h _ _)) v
  · next h =>
    rw [cramLoc_of_pos (Nat.pos_of_ne_zero h), Nat.mul_zero, Nat.zero_add] at hloc
    exact bus_cell hloc v

/-- Settles O26: the window of the address decides which register a write reaches and what a read shows. -/
theorem mbc1Controller : Obligations.Mbc1Controller := by
  unfold Obligations.Mbc1Controller
  intro s en lo hi mode addr v hm
  dsimp only
  refine ⟨fun h => ?_, fun h1 h2 => ?_, fun h1 h2 => ?_, fun h1 h2 => ?_, peek_romFixed hm nofun, fun h1 h2 => ?_,
    fun h1 h2 => ?_⟩
  · rw [memWrite_control hm (by omega), mbcControl, if_pos h, enablesRam_eq]
  · rw [memWrite_control hm (by omega), mbcControl, if_neg (by omega), if_pos h2, BitVec.ofNat_toNat]
  · rw [memWrite_control hm (by omega), mbcControl, if_neg (by omega), if_neg (by omega), if_pos h2, BitVec.ofNat_toNat]
  · rw [memWrite_control hm h2, mbcControl, if_neg (by omega), if_neg (by omega), if_neg (by omega), getLsbD_eq_decide,
      pow_zero, Nat.div_one]
  · rw [peek_romBanked hm nofun h1 h2, mbcRomBank, zeroToOne]
  · have hloc := locate_mbcRam hm h1 h2
    rw [mbcRamLoc] at hloc
    split
    · next h =>
      obtain ⟨hen, hpos⟩ := h
      rw [if_pos hen, cramLoc_of_pos hpos] at hloc
      exact bus_cell hloc v
    · next h =>
      refine bus_absent (hloc.trans ?_) v
      by_cases hen : en = true
      · rw [if_pos hen, cramLoc_of_zero (by simpa [hen] using h)]
      · rw [if_neg hen]

/-- Settles O27: below 0x4000 address bit 8 decides which register a write reaches. -/
theorem mbc2Controller : Obligations.Mbc2Controller := by
  unfold Obligations.Mbc2Controller
  intro s en bank addr v hm
  dsimp only
  refine ⟨fun h h8 => ?_, fun h h8 => ?_, fun h1 h2 => ?_, peek_romFixed hm nofun, fun h1 h2 => ?_, fun h1 h2 => ?_⟩
  · rw [memWrite_control hm (by omega), mbcControl, if_pos h, getLsbD_eq_decide, if_neg (by simp [h8]), enablesRam_eq]
  · rw [memWrite_control hm (by omega), mbcControl, if_pos h, getLsbD_eq_decide, if_pos (by simp [h8]), BitVec.ofNat_toNat]
  · exact memWrite_control_same hm h2 (if_neg (by omega))
  · rw [peek_romBanked hm nofun h1 h2, mbcRomBank, zeroToOne]
  · have hloc := locate_mbcRam hm h1 h2
    rw [mbcRamLoc] at hloc
    split
    · next hen => exact bus_nibble (hloc.trans (if_pos hen)) v
    · next hen => exact bus_absent (hloc.trans (if_neg hen)) v

/-- Settles O28: the window of the address decides which register a write reaches, and `ram_sel` what cartridge RAM shows. -/
theorem mbc3Controller : Obligations.Mbc3Controller := by
  unfold Obligations.Mbc3Controller
  intro s en bank sel addr v hm
  dsimp only
  refine ⟨fun h => ?_, fun h1 h2 => ?_, fun h1 h2 => ?_, fun h1 h2 => ?_, peek_romFixed hm nofun, fun h1 h2 => ?_,
    fun h1 h2 => ?_⟩
  · rw [memWrite_control hm (by omega), mbcControl, if_pos h, enablesRam_eq]
  · rw [memWrite_control hm (by omega), mbcControl, if_neg (by omega), if_pos h2, BitVec.ofNat_toNat]
  · rw [memWrite_control hm (by omega), mbcControl, if_neg (by omega), if_neg (by omega), if_pos h2, BitVec.ofNat_toNat]
  · refine memWrite_control_same hm h2 ?_
    rw [mbcControl, if_neg (by omega), if_neg (by omega), if_neg (by omega)]
  · rw [peek_romBanked hm nofun h1 h2, mbcRomBank, zeroToOne]
  · have hloc := locate_mbcRam hm h1 h2
    rw [mbcRamLoc] at hloc
    split
    · next h =>
      obtain ⟨hen, hsel, hpos⟩ := h
      rw [if_pos hen, if_pos hsel, cramLoc_of_pos hpos] at hloc
      exact bus_cell hloc v
    · next hram =>
      split
      · next h =>
        obtain ⟨hen, hsel⟩ := h
        rw [if_pos hen, if_neg (by omega), if_pos hsel] at hloc
        exact bus_cell hloc v
      · next hrtc =>
        refine bus_absent (hloc.trans ?_) v
        by_cases hen : en = true
        · rw [if_pos hen]
          by_cases hsel : sel.toNat ≤ 3
          · rw [if_pos hsel, cramLoc_of_zero (by simpa [hen, hsel] using hram)]
          · rw [if_neg hsel, if_neg fun h => hrtc ⟨hen, h⟩]
        · rw [if_neg hen]

/-- Settles O24: every writable address leads to a cell of an array, or to `IE`. -/
theorem busRoundTrip : Obligations.BusRoundTrip := by
  unfold Obligations.BusRoundTrip
  intro s addr v
  dsimp only
  have hcell : ∀ {k i}, s.locate addr = .cell k i → (s.memWrite addr v).peek addr = v :=
    fun h => peek_memWrite_of_cell h h v
  rintro (⟨h1, h2⟩ | ⟨h1, h2, hcart⟩ | ⟨h1, h2⟩ | h1)
  · exact hcell (locate_vram s h1 h2)
  · cases hm : s.mbc with
    | none =>
      have hpos : 0 < s.ramBytes := by rwa [hm] at hcart
      exact hcell ((locate_mbcRam hm h1 h2).trans (cramLoc_of_pos hpos _ _))
    | mbc1 en lo hi mode =>
      obtain ⟨hen, hpos⟩ : en = true ∧ 0 < s.ramBytes := by rwa [hm] at hcart
      exact hcell ((locate_mbcRam hm h1 h2).trans ((if_pos hen).trans (cramLoc_of_pos hpos _ _)))
    | mbc2 en bank =>
      have hno : False := by rwa [hm] at hcart
      exact hno.elim
    | mbc3 en bank sel =>
      obtain ⟨hen, hsel⟩ : en = true ∧ (sel.toNat ≤ 3 ∧ 0 < s.ramBytes ∨ 8 ≤ sel.toNat ∧ sel.toNat ≤ 12) := by
        rwa [hm] at hcart
      have hloc := (locate_mbcRam hm h1 h2).trans (if_pos hen)
      obtain ⟨hsel, hpos⟩ | hsel := hsel
      · exact hcell (hloc.trans ((if_pos hsel).trans (cramLoc_of_pos hpos _ _)))
      · exact hcell (hloc.trans ((if_neg (by omega)).trans (if_pos hsel)))
  · obtain hw | ⟨he, ho⟩ | ho :
        addr.toNat < 0xE000 ∨ (0xE000 ≤ addr.toNat ∧ addr.toNat < 0xFE00) ∨ 0xFE00 ≤ addr.toNat := by omega
    · obtain ⟨k, i, hc⟩ := wramLoc_cell addr.toNat
      exact hcell ((locate_wram s h1 hw).trans hc)
    · obtain ⟨k, i, hc⟩ := wramLoc_cell (addr.toNat - 0x2000)
      exact hcell ((locate_echo s he ho).trans hc)
    · exact hcell (locate_oam s ho h2)
  · obtain hh | hi : addr.toNat < 0xFFFF ∨ addr.toNat = 0xFFFF := by omega
    · exact hcell (locate_hram s h1 hh)
    · exact peek_memWrite_of_iePort (locate_iePort s hi) v

end Sys2Proof.Machine
end

section
/-! PROOFS. Loading a cartridge: when it succeeds and what it builds (20_memory.md R98 to R103, 70_reset_and_hazards.md R460). -/

namespace Sys2Proof.Machine

/-! ## The header tables by number -/

/-- 20_memory.md R100. -/
theorem mbcOfHeader_eq : ∀ code : Byte, mbcOfHeader code =
    if code.toNat ∈ [0x00, 0x08, 0x09, 0x01, 0x02, 0x03, 0x05, 0x06, 0x0F, 0x10, 0x11, 0x12, 0x13] then
      some (if code.toNat ∈ [0x00, 0x08, 0x09] then .none else if code.toNat ∈ [0x01, 0x02, 0x03] then .mbc1 false 0 0 false
        else if code.toNat ∈ [0x05, 0x06] then .mbc2 false 0 else .mbc3 false 0 0)
    else none := by decide

/-- 20_memory.md R103. -/
theorem ramBytesOfHeader_eq : ∀ code : Byte, ramBytesOfHeader code =
    if code.toNat ≤ 5 then some ([0, 2048, 8192, 32768, 131072, 65536].getD code.toNat 0) else none := by decide

/-- The two type bytes of MBC2 (20_memory.md R100). -/
theorem isMbc2_of_header : ∀ kind : Byte, (mbcOfHeader kind).any Mbc.isMbc2 = decide (kind.toNat ∈ [0x05, 0x06]) := by decide

/-- The size of cartridge RAM of a header: MBC2 ignores the RAM code, also one outside the table (20_memory.md R103, R114; log 22). -/
theorem ramBytesFor_eq {kind : Byte} {m : Mbc} (h : mbcOfHeader kind = some m) (code : Byte) :
    ramBytesFor m code =
      if kind.toNat ∈ [0x05, 0x06] ∨ code.toNat ≤ 5 then
        some (if kind.toNat ∈ [0x05, 0x06] then 512 else [0, 2048, 8192, 32768, 131072, 65536].getD code.toNat 0)
      else none := by
  have hk : m.isMbc2 = decide (kind.toNat ∈ [0x05, 0x06]) := by rw [← isMbc2_of_header kind, h, Option.any_some]
  have hr : ramBytesFor m code = if m.isMbc2 then some 512 else ramBytesOfHeader code := by cases m <;> rfl
  simp only [hr, hk, ramBytesOfHeader_eq, decide_eq_true_eq]
  by_cases h5 : kind.toNat ∈ [0x05, 0x06]
  · rw [if_pos h5, if_pos (.inl h5), if_pos h5]
  · simp only [if_neg h5, or_iff_right h5]

/-! ## When a load succeeds -/

/-- A load succeeds where every check of 20_memory.md R101 to R103 passes, and then is this reset state. -/
theorem load_eq_ok_iff {image : List Byte} {s : State} :
    load image = .ok s ↔ 0x14A ≤ image.length ∧ ∃ m banks n,
      mbcOfHeader (image.getD 0x147 0) = some m ∧ romBanksOfHeader (image.getD 0x148 0) = some banks ∧
      image.length = 16384 * banks ∧ ramBytesFor m (image.getD 0x149 0) = some n ∧
      s = State.resetWith m (romOfImage 0 image) banks n := by
  constructor
  · fun_cases load image with
    | case5 kind romCode ramCode hlen m hm banks hb hsize n hn =>
      intro h
      cases h
      exact ⟨Nat.not_lt.mp hlen, m, banks, n, hm, hb, hsize, hn, rfl⟩
    | _ => exact fun h => nomatch h
  · rintro ⟨hlen, m, banks, n, hm, hb, hsize, hn, rfl⟩
    unfold load
    simp only [if_neg (Nat.not_lt.mpr hlen), hm, hb, if_pos hsize, hn]

/-- The image of a loaded machine reads back byte by byte. -/
theorem readCell_rom_resetWith (m : Mbc) (image : List Byte) (banks n i : Nat) :
    (State.resetWith m (romOfImage 0 image) banks n).readCell .rom i = image.getD i 0 := by
  have h := romOfImage_find image 0 i
  rwa [if_pos (Nat.zero_le i), Nat.sub_zero] at h

/-- Settles O19: each check of `load` is one conjunct of the load condition, read off its header table. -/
theorem loadContract : Obligations.LoadContract := by
  unfold Obligations.LoadContract
  intro image
  dsimp only
  refine ⟨fun hno => ?_, fun ⟨hlen, hkind, hrom, hsize, hram⟩ => ?_⟩
  · cases hload : load image with
    | error f => exact ⟨f, rfl⟩
    | ok s =>
      obtain ⟨hlen, m, banks, n, hm, hb, hsize, hn, _⟩ := load_eq_ok_iff.mp hload
      rw [ramBytesFor_eq hm, Option.ite_none_right_eq_some] at hn
      rw [mbcOfHeader_eq, Option.ite_none_right_eq_some] at hm
      rw [romBanksOfHeader, Option.ite_none_right_eq_some, Option.some_inj] at hb
      obtain ⟨hkind, _⟩ := hm
      obtain ⟨hrom, rfl⟩ := hb
      exact absurd ⟨hlen, hkind, hrom, hsize, hn.1⟩ hno
  · have hm := (mbcOfHeader_eq (image.getD 0x147 0)).trans (if_pos hkind)
    have hn := (ramBytesFor_eq hm (image.getD 0x149 0)).trans (if_pos hram)
    exact ⟨_, load_eq_ok_iff.mpr ⟨hlen, _, _, _, hm, if_pos hrom, hsize, hn, rfl⟩, rfl, rfl, rfl,
      fun i _ => readCell_rom_resetWith ..⟩

end Sys2Proof.Machine
end

section
/-! PROOFS. Decoding and encoding: what the decoder reads format by format, and that the encoder is its inverse (30_encoding.md R130 to R147). -/

namespace Sys2Proof.Machine

/-! ## The formats and the opcode lists -/

/-- `0xCB` is the one opcode of its format (30_encoding.md R131). -/
theorem eq_cb_of_opcodeFormat {op : Byte} (h : opcodeFormat op = .fcb) : op = 0xCB := by
  simpa [h] using opcodeFormat_cases op

theorem mem_f1Opcodes_of_opcodeFormat {op : Byte} (h : opcodeFormat op = .f1) : op ∈ f1Opcodes := by
  simpa [h] using opcodeFormat_cases op

theorem mem_f2Opcodes_of_opcodeFormat {op : Byte} (h : opcodeFormat op = .f2) : op ∈ f2Opcodes := by
  simpa [h] using opcodeFormat_cases op

/-- The length by the opcode lists (30_encoding.md R131). -/
theorem opcodeLength_eq (op : Byte) :
    opcodeLength op = if op = 0xCB then 2 else if op ∈ f1Opcodes then 2 else if op ∈ f2Opcodes then 3 else 1 := by
  unfold opcodeLength opcodeFormat
  split_ifs <;> rfl

theorem opcodeLength_le_three (op : Byte) : opcodeLength op ≤ 3 := by
  unfold opcodeLength
  cases opcodeFormat op <;> decide

/-! ## The bytes an instruction is read from -/

/-- The instruction that the four formats read from exactly these bytes (30_encoding.md R130). -/
inductive ReadFrom : List Byte → Instr → Prop where
  | f0 {op : Byte} (h : opcodeFormat op = .f0) : ReadFrom [op] (decodePrimary op 0 0)
  | f1 {op : Byte} (n : Byte) (h : opcodeFormat op = .f1) : ReadFrom [op, n] (decodePrimary op n 0)
  | f2 {op : Byte} (lo hi : Byte) (h : opcodeFormat op = .f2) : ReadFrom [op, lo, hi] (decodePrimary op lo hi)
  | fcb (op2 : Byte) : ReadFrom [0xCB, op2] (decodeSecondary op2)

/-- Decoding answers the instruction read from the first bytes, and the bytes after them. -/
theorem decode_eq_ok_iff {bytes rest : List Byte} {i : Instr} :
    decode bytes = .ok (i, rest) ↔ ∃ head, ReadFrom head i ∧ bytes = head ++ rest := by
  constructor
  · fun_cases decode bytes with
    | case2 op rest hf => rintro ⟨⟩; exact ⟨_, .f0 hf, rfl⟩
    | case3 op n rest hf => rintro ⟨⟩; exact ⟨_, .f1 n hf, rfl⟩
    | case4 op lo hi rest hf => rintro ⟨⟩; exact ⟨_, .f2 lo hi hf, rfl⟩
    | case5 op op2 rest hf =>
      obtain rfl := eq_cb_of_opcodeFormat hf
      rintro ⟨⟩
      exact ⟨_, .fcb op2, rfl⟩
    | _ => exact fun h => nomatch h
  · rintro ⟨_, hread, rfl⟩
    cases hread with
    | f0 h | f1 _ h | f2 _ _ h => simp only [List.cons_append, List.nil_append, decode, h]
    | fcb op2 => rfl

/-- Three bytes always hold an instruction, of the length the first one says (30_encoding.md R145). -/
theorem exists_readFrom_take (b0 b1 b2 : Byte) (rest : List Byte) :
    ∃ i, ReadFrom ((b0 :: b1 :: b2 :: rest).take (opcodeLength b0)) i := by
  unfold opcodeLength
  cases hf : opcodeFormat b0 with
  | f0 => exact ⟨_, .f0 hf⟩
  | f1 => exact ⟨_, .f1 b1 hf⟩
  | f2 => exact ⟨_, .f2 b1 b2 hf⟩
  | fcb =>
    obtain rfl := eq_cb_of_opcodeFormat hf
    exact ⟨_, .fcb b1⟩

/-! ## The encoder is the inverse -/

/-- What is read from some bytes is encoded as these bytes. -/
theorem ReadFrom.encode_eq {head : List Byte} {i : Instr} (h : ReadFrom head i) : encode i = head := by
  cases h with
  | f0 h => exact encode_decodePrimary_f0 _ h
  | f1 n h => exact encode_decodePrimary_f1 n (mem_f1Opcodes_of_opcodeFormat h)
  | f2 lo hi h => exact encode_decodePrimary_f2 lo hi (mem_f2Opcodes_of_opcodeFormat h)
  | fcb op2 => exact encode_decodeSecondary op2

/-- An instruction with a word, low byte first (30_encoding.md R140): the word it is read with is the whole word. -/
theorem readFrom_word {op : Byte} (mk : Word → Instr) (nn : Word) (hf : opcodeFormat op = .f2)
    (hmk : ∀ lo hi, decodePrimary op lo hi = mk (joinBytes hi lo)) : ReadFrom [op, loByte nn, hiByte nn] (mk nn) := by
  rw [← joinBytes_hiByte_loByte nn, ← hmk, hiByte_joinBytes, loByte_joinBytes]
  exact .f2 _ _ hf

/-- The grids of 30_encoding.md R141 and R142, one family at a time: the decoder reads each instruction from its encoding. -/
theorem readFrom_encode (i : Instr) : ReadFrom (encode i) i := by
  cases family i with
  | ld x y => cases x <;> cases y <;> exact .f0 rfl
  | alu op x => cases op <;> cases x <;> exact .f0 rfl
  | ldFromHL x | ldToHL x | inc x | dec x => cases x <;> exact .f0 rfl
  | addHL p | incPair p | decPair p => cases p <;> exact .f0 rfl
  | aluHL op => cases op <;> exact .f0 rfl
  | push q | pop q => cases q <;> exact .f0 rfl
  | retCond cc => cases cc <;> exact .f0 rfl
  | rst t => fin_cases t <;> exact .f0 rfl
  | ldImm x n => cases x <;> exact .f1 n rfl
  | aluImm op n => cases op <;> exact .f1 n rfl
  | jrCond cc e => cases cc <;> exact .f1 e rfl
  | jre e | addSPe e | ldHLSPe e => exact .f1 e rfl
  | ldAtHLn n | ldhAtImmA n | ldhAAtImm n => exact .f1 n rfl
  | ldPair p nn => cases p <;> exact readFrom_word (mkLdPair _) nn rfl fun _ _ => rfl
  | jpCond cc nn => cases cc <;> exact readFrom_word (mkJpCond _) nn rfl fun _ _ => rfl
  | callCond cc nn => cases cc <;> exact readFrom_word (mkCallCond _) nn rfl fun _ _ => rfl
  | ldAtAddrSP nn => exact readFrom_word .ldAtAddrSP nn rfl fun _ _ => rfl
  | jpnn nn => exact readFrom_word .jpnn nn rfl fun _ _ => rfl
  | callnn nn => exact readFrom_word .callnn nn rfl fun _ _ => rfl
  | ldAtAddrA nn => exact readFrom_word .ldAtAddrA nn rfl fun _ _ => rfl
  | ldAAtAddr nn => exact readFrom_word .ldAAtAddr nn rfl fun _ _ => rfl
  | shift k x => cases k <;> cases x <;> exact .fcb _
  | shiftHL k => cases k <;> exact .fcb _
  | bit b x | res b x | set b x => fin_cases b <;> cases x <;> exact .fcb _
  | bitHL b | resHL b | setHL b => fin_cases b <;> exact .fcb _
  | _ => exact .f0 rfl

theorem decode_encode_append (i : Instr) (rest : List Byte) : decode (encode i ++ rest) = .ok (i, rest) :=
  decode_eq_ok_iff.mpr ⟨encode i, readFrom_encode i, rfl⟩

/-! ## The statements -/

/-- Settles O1: the decoder reads each instruction from its encoding (`readFrom_encode`), whatever follows it. -/
theorem decodeUndoesEncode : Obligations.DecodeUndoesEncode := by
  unfold Obligations.DecodeUndoesEncode
  intro i rest _
  exact decode_encode_append i rest

/-- Settles O2: what is read from some bytes is encoded as these bytes (`ReadFrom.encode_eq`). -/
theorem encodeUndoesDecode : Obligations.EncodeUndoesDecode := by
  unfold Obligations.EncodeUndoesDecode
  intro bytes i rest h
  obtain ⟨head, hread, rfl⟩ := decode_eq_ok_iff.mp h
  rw [hread.encode_eq]

/-- Settles O3: the first `opcodeLength b0` bytes hold an instruction, and they are its encoding. -/
theorem lengthsAndTotality : Obligations.LengthsAndTotality := by
  unfold Obligations.LengthsAndTotality
  intro b0 b1 b2 rest n
  have hn : n = opcodeLength b0 := (opcodeLength_eq b0).symm
  have hlen : opcodeLength b0 ≤ (b0 :: b1 :: b2 :: rest).length :=
    (opcodeLength_le_three b0).trans (Nat.le_add_left 3 rest.length)
  obtain ⟨i, hread⟩ := exists_readFrom_take b0 b1 b2 rest
  rw [hn]
  refine ⟨i, decode_eq_ok_iff.mpr ⟨_, hread, (List.take_append_drop ..).symm⟩, ?_⟩
  rw [hread.encode_eq, List.length_take_of_le hlen]

/-- Settles O4: each word is the encoding of its instruction, and the decoder reads it back (`decode_encode_append`). -/
theorem sampleWordsDecode : Obligations.SampleWordsDecode := by
  unfold Obligations.SampleWordsDecode
  intro w hw
  have hword : w.1 = encode w.2 ++ [] := by
    revert w
    decide
  rw [hword, decode_encode_append]

end Sys2Proof.Machine
end

section
/-! PROOFS. Packed decimal arithmetic: an addition into `A` or a subtraction from it, and then `DAA` (40_alu_primitives.md R160, R161, R163;
95_test_vectors.md V20). -/

namespace Sys2Proof.Machine

/-! ## What the ALU operations and `DAA` leave in `A` and `F` -/

theorem flagsAre_aluOn (op : AluOp) (x : Byte) (cycles : Nat) (s : State) :
    let r := aluFn op s.a x s.flagC
    FlagsAre (aluOn op x cycles s) r.z r.n r.h r.c :=
  (flagsAre_tick ..).mpr (flagsAre_setFlags ..)

theorem addsTo_of_add8 {x : Byte} {cin : Bool} {s t : State} (ha : t.a = (add8 s.a x cin).res)
    (hf : let r := add8 s.a x cin; FlagsAre t r.z r.n r.h r.c) : AddsTo x cin.toNat s t := by
  obtain ⟨hres, hz, hn, hh, hc⟩ := add8_eq s.a x cin
  simp only [hz, hn, hh, hc] at hf
  exact ⟨ha ▸ hres, hf⟩

theorem subFlags_of_sub8 {x : Byte} {cin : Bool} {s t : State}
    (hf : let r := sub8 s.a x cin; FlagsAre t r.z r.n r.h r.c) : SubFlags x cin.toNat s t := by
  obtain ⟨-, hz, hn, hh, hc⟩ := sub8_eq s.a x cin
  simp only [hz, hn, hh, hc] at hf
  exact hf

/-- Every ALU operation does what the spec says of it (43_alu8.md R240 to R263), whatever its operand and its cycles. -/
theorem aluResult_aluOn (op : AluOp) (x : Byte) (cycles : Nat) (s : State) : AluResult op x s (aluOn op x cycles s) := by
  have hf := flagsAre_aluOn op x cycles s
  cases op with
  | add => exact addsTo_of_add8 (cin := false) rfl hf
  | adc => exact addsTo_of_add8 rfl hf
  | sub => exact ⟨(sub8_eq s.a x false).1, subFlags_of_sub8 (cin := false) hf⟩
  | sbc => exact ⟨(sub8_eq s.a x s.flagC).1, subFlags_of_sub8 hf⟩
  | cp => exact ⟨rfl, subFlags_of_sub8 (cin := false) hf⟩
  | and => exact ⟨fun i _ => BitVec.getLsbD_and, beq_zero_eq (s.a &&& x) ▸ hf⟩
  | xor => exact ⟨fun i _ => BitVec.getLsbD_xor, beq_zero_eq (s.a ^^^ x) ▸ hf⟩
  | or => exact ⟨fun i _ => BitVec.getLsbD_or, beq_zero_eq (s.a ||| x) ▸ hf⟩

theorem flagsAre_adjustA (s : State) :
    let r := daa s.a s.flagN s.flagH s.flagC
    FlagsAre (adjustA s) r.z r.n r.h r.c :=
  (flagsAre_tick ..).mpr (flagsAre_setFlags ..)

/-- `DAA` by number (43_alu8.md R268). -/
theorem adjustA_result (s : State) :
    let r := daaNat s.a.toNat s.flagN s.flagH s.flagC
    (adjustA s).a.toNat = r.1 ∧ FlagsAre (adjustA s) (decide (r.1 = 0)) s.flagN false r.2 := by
  obtain ⟨hres, hz, hn, hh, hc⟩ := daa_eq s.a s.flagN s.flagH s.flagC
  exact ⟨hres, by simpa only [hz, hn, hh, hc] using flagsAre_adjustA s⟩

/-! ## The two digits of a packed number -/

theorem bcd_toNat {k : Nat} (h : k < 100) : (bcd k).toNat = 16 * (k / 10) + k % 10 :=
  Nat.mod_eq_of_lt (by omega)

theorem bcd_toNat_eq_zero_iff {k : Nat} (h : k < 100) : (bcd k).toNat = 0 ↔ k = 0 := by
  rw [bcd_toNat h]
  omega

/-! ## The correction is decimal -/

/-- After an addition the low correction is made when the low digits carry, the high one when the decimal sum reaches 100. -/
theorem daaNat_after_add {x y k : Nat} (hx : x < 100) (hy : y < 100) (hk : k ≤ 1) :
    daaNat (((bcd x).toNat + (bcd y).toNat + k) % 256) false (decide ((bcd x).toNat % 16 + (bcd y).toNat % 16 + k > 15))
      (decide ((bcd x).toNat + (bcd y).toNat + k > 255)) =
    ((bcd ((x + y + k) % 100)).toNat, decide (x + y + k ≥ 100)) := by
  rw [bcd_toNat hx, bcd_toNat hy, bcd_toNat (Nat.mod_lt _ (by decide))]
  generalize hsum : 16 * (x / 10) + x % 10 + (16 * (y / 10) + y % 10) + k = sum
  have hlo : (decide ((16 * (x / 10) + x % 10) % 16 + (16 * (y / 10) + y % 10) % 16 + k > 15) || decide (sum % 256 % 16 > 0x09)) =
      decide (x % 10 + y % 10 + k ≥ 10) := by
    rw [← Bool.decide_or]
    congr 1
    rw [eq_iff_iff]
    omega
  have hhi : (decide (sum > 255) || decide (sum % 256 > 0x99)) = decide (x + y + k ≥ 100) := by
    rw [← Bool.decide_or]
    congr 1
    rw [eq_iff_iff]
    omega
  simp only [daaNat, hlo, hhi, Bool.false_eq_true, if_false, decide_eq_true_eq]
  congr 1
  split_ifs <;> omega

/-- After a subtraction the low correction is made when the low digits borrow, the high one when the decimal difference is negative. -/
theorem daaNat_after_sub {x y k : Nat} (hx : x < 100) (hy : y < 100) (hk : k ≤ 1) :
    daaNat ((256 + (bcd x).toNat - (bcd y).toNat - k) % 256) true (decide ((bcd x).toNat % 16 < (bcd y).toNat % 16 + k))
      (decide ((bcd x).toNat < (bcd y).toNat + k)) =
    ((bcd ((x + 200 - y - k) % 100)).toNat, decide (x < y + k)) := by
  rw [bcd_toNat hx, bcd_toNat hy, bcd_toNat (Nat.mod_lt _ (by decide))]
  have hlo : (16 * (x / 10) + x % 10) % 16 < (16 * (y / 10) + y % 10) % 16 + k ↔ x % 10 < y % 10 + k := by omega
  have hhi : 16 * (x / 10) + x % 10 < 16 * (y / 10) + y % 10 + k ↔ x < y + k := by omega
  simp only [daaNat, hlo, hhi, if_true, decide_eq_true_eq]
  congr 1
  split_ifs <;> omega

/-! ## The statement -/

/-- `A`, Carry and Zero of the state `u` hold the decimal result `r` below 100, with the decimal carry or borrow `c`. -/
def HoldsDecimal (r : Nat) (c : Bool) (u : State) : Prop :=
  u.a = bcd r ∧ u.flagC = c ∧ u.flagZ = decide (r = 0)

/-- `DAA` leaves the decimal result where `daaNat` computes it. -/
theorem holdsDecimal_adjustA {t : State} {r : Nat} {c : Bool} (hr : r < 100)
    (h : daaNat t.a.toNat t.flagN t.flagH t.flagC = ((bcd r).toNat, c)) : HoldsDecimal r c (adjustA t) := by
  obtain ⟨ha, hz, -, -, hc, -⟩ := adjustA_result t
  rw [h] at ha hz hc
  exact ⟨BitVec.eq_of_toNat_eq ha, hc, by simpa only [bcd_toNat_eq_zero_iff hr] using hz⟩

/-- `DAA` after an addition of packed numbers (R160, R163). -/
theorem holdsDecimal_of_addsTo {s t : State} {x y k : Nat} (hx : x < 100) (hy : y < 100) (hk : k ≤ 1) (hs : s.a = bcd x)
    (ht : AddsTo (bcd y) k s t) : HoldsDecimal ((x + y + k) % 100) (decide (x + y + k ≥ 100)) (adjustA t) := by
  obtain ⟨ha, -, hn, hh, hc, -⟩ := ht
  apply holdsDecimal_adjustA (Nat.mod_lt _ (by decide))
  rw [ha, hn, hh, hc, hs]
  exact daaNat_after_add hx hy hk

/-- `DAA` after a subtraction of packed numbers (R161, R163). -/
theorem holdsDecimal_of_subtractsFrom {s t : State} {x y k : Nat} (hx : x < 100) (hy : y < 100) (hk : k ≤ 1) (hs : s.a = bcd x)
    (ht : SubtractsFrom (bcd y) k s t) :
    HoldsDecimal ((x + 200 - y - k) % 100) (decide (x < y + k)) (adjustA t) := by
  obtain ⟨ha, -, hn, hh, hc, -⟩ := ht
  apply holdsDecimal_adjustA (Nat.mod_lt _ (by decide))
  rw [ha, hn, hh, hc, hs]
  exact daaNat_after_sub hx hy hk

theorem exec_daa (s : State) : exec .daa s = .next (adjustA s) := rfl

/-- Settles O45: what each operation leaves (`aluResult_aluOn`) is what `DAA` corrects to the decimal result. -/
theorem daaIsDecimal : Obligations.DaaIsDecimal := by
  unfold Obligations.DaaIsDecimal
  intro s x y hs c sumThenDaa differenceThenDaa
  have hc : c ≤ 1 := Bool.toNat_le s.flagC
  have hresult := fun op : AluOp => aluResult_aluOn op (bcd y) 8 s
  have hexec := fun op : AluOp => exec_mkAluImm op (bcd y) s
  exact
    ⟨⟨_, _, hexec .add, exec_daa _, holdsDecimal_of_addsTo x.isLt y.isLt zero_le_one hs (hresult .add)⟩,
      ⟨_, _, hexec .adc, exec_daa _, holdsDecimal_of_addsTo x.isLt y.isLt hc hs (hresult .adc)⟩,
      ⟨_, _, hexec .sub, exec_daa _, holdsDecimal_of_subtractsFrom x.isLt y.isLt zero_le_one hs (hresult .sub)⟩,
      ⟨_, _, hexec .sbc, exec_daa _, holdsDecimal_of_subtractsFrom x.isLt y.isLt hc hs (hresult .sbc)⟩⟩

end Sys2Proof.Machine
end

section
/-! PROOFS. The 8-bit loads (41_load8.md R200 to R218): a frame rule for each part of a load, and each load as a chain of such parts. -/

namespace Sys2Proof.Machine

/-! ## Frames compose -/

theorem SameBut.trans {rs rs' : List Reg8} {s t u : State} (h : SameBut rs s t) (k : SameBut rs' t u) :
    SameBut (rs ++ rs') s u := by
  obtain ⟨hreg, ⟨hime, harmed, hrun⟩, hrom, hbanks, hram, hspadd, hstop⟩ := h
  obtain ⟨kreg, ⟨kime, karmed, krun⟩, krom, kbanks, kram, kspadd, kstop⟩ := k
  refine ⟨fun r hr => ?_, ⟨kime.trans hime, karmed.trans harmed, krun.trans hrun⟩, krom.trans hrom, kbanks.trans hbanks,
    kram.trans hram, kspadd.trans hspadd, kstop.trans hstop⟩
  rw [List.mem_append, not_or] at hr
  exact (kreg r hr.2).trans (hreg r hr.1)

/-- The sizes of the cartridge are among the build parameters. -/
theorem SameBut.sizes {rs : List Reg8} {s t : State} (h : SameBut rs s t) :
    t.romBanks = s.romBanks ∧ t.ramBytes = s.ramBytes := by
  obtain ⟨-, -, -, hbanks, hram, -⟩ := h
  exact ⟨hbanks, hram⟩

theorem RegisterOnly.sameBacking {rs : List Reg8} {s t : State} (h : RegisterOnly rs s t) : SameBacking s t := by
  obtain ⟨hbut, -, -, ⟨-, harray, hmbc, hif, hie⟩, hports⟩ := h
  obtain ⟨hbanks, hram⟩ := hbut.sizes
  exact ⟨harray, hmbc, hif, hie, hports, hbanks, hram⟩

/-- A change of registers after anything that keeps memory: whatever the port record `p` was then, it still is. -/
theorem RegisterOnly.after_sameMemory {rs rs' : List Reg8} {s t u : State} {p : List PortEvent} (k : RegisterOnly rs' t u)
    (h : SameBut rs s t ∧ t.sp = s.sp ∧ t.pc = s.pc ∧ SameMemory s t ∧ t.ports = p) :
    SameBut (rs ++ rs') s u ∧ u.sp = s.sp ∧ u.pc = s.pc ∧ SameMemory s u ∧ u.ports = p := by
  have hb := k.sameBacking
  obtain ⟨hbut, hsp, hpc, hmem, hports⟩ := h
  obtain ⟨kbut, ksp, kpc, -, kports⟩ := k
  obtain ⟨hbanks, hram⟩ := hbut.sizes
  exact ⟨hbut.trans kbut, ksp.trans hsp, kpc.trans hpc, hmem.trans_backing hb hbanks hram, kports.trans hports⟩

theorem RegisterOnly.trans {rs rs' : List Reg8} {s t u : State} (h : RegisterOnly rs s t) (k : RegisterOnly rs' t u) :
    RegisterOnly (rs ++ rs') s u := k.after_sameMemory h

theorem ReadsOnly.trans_registerOnly {addr : Word} {rs rs' : List Reg8} {s t u : State} (h : ReadsOnly addr rs s t)
    (k : RegisterOnly rs' t u) : ReadsOnly addr (rs ++ rs') s u := k.after_sameMemory h

theorem StoresOnly.trans_registerOnly {addr : Word} {v : Byte} {rs rs' : List Reg8} {s t u : State}
    (h : StoresOnly addr v rs s t) (k : RegisterOnly rs' t u) : StoresOnly addr v (rs ++ rs') s u := by
  have hb := k.sameBacking
  obtain ⟨hbut, hsp, hpc, hstored⟩ := h
  obtain ⟨kbut, ksp, kpc, -⟩ := k
  obtain ⟨hbanks, hram⟩ := hbut.sizes
  exact ⟨hbut.trans kbut, ksp.trans hsp, kpc.trans hpc, hstored.congr hb hbanks hram⟩

/-! ## The frame of each part -/

/-- What keeps every register but those listed and, of the rest, all that `Keeps` says. -/
theorem Keeps.sameBut {rs : List Reg8} {s t : State} (h : Keeps s t) (hreg : ∀ r, r ∉ rs → t.reg r = s.reg r) :
    SameBut rs s t := ⟨hreg, h.int, h.build⟩

theorem registerOnly_tick (s : State) (n : Nat) : RegisterOnly [] s (s.tick n) :=
  ⟨((Keeps.refl s).tick n).sameBut (by simp), rfl, rfl, sameMemory_of (by simp) rfl rfl rfl rfl rfl, rfl⟩

theorem registerOnly_setReg (s : State) (r : Reg8) (v : Byte) : RegisterOnly [r] s (s.setReg r v) :=
  ⟨((Keeps.refl s).setReg r v).sameBut (by simp +contextual), by simp, by simp,
    sameMemory_of (by simp) (by simp) (by simp) (by simp) (by simp) (by simp), by simp⟩

theorem registerOnly_setPair_hl (s : State) (v : Word) : RegisterOnly [.h, .l] s (s.setPair .hl v) :=
  ⟨((Keeps.refl s).setPair .hl v).sameBut fun _ => reg_setPair s .hl v, rfl, rfl,
    sameMemory_of (by simp) rfl rfl rfl rfl rfl, rfl⟩

theorem readsOnly_noteRead (s : State) (addr : Word) : ReadsOnly addr [] s (s.noteRead addr) :=
  ⟨((Keeps.refl s).noteRead addr).sameBut (by simp), by simp, by simp, sameMemory_noteRead s addr, s.noteRead_ports addr⟩

theorem storesOnly_memWrite (s : State) (addr : Word) (v : Byte) : StoresOnly addr v [] s (s.memWrite addr v) :=
  ⟨((Keeps.refl s).memWrite addr v).sameBut (by simp), by simp, by simp, storedByte_memWrite s addr v⟩

/-! ## What each shape of load does -/

/-- A value put into a register (R200, R201). -/
theorem setReg_tick_effect (x : Reg8) (v : Byte) (k : Nat) (s : State) :
    let t := (s.setReg x v).tick k
    t.reg x = v ∧ t.f = s.f ∧ t.cycles = s.cycles + k ∧ RegisterOnly [x] s t :=
  ⟨by simp, by simp, by simp, (registerOnly_setReg s x v).trans (registerOnly_tick _ k)⟩

/-- The byte read at `addr` put into a register (R202, R205, R206, R209, R211, R213). -/
theorem load_effect (x : Reg8) (addr : Word) (k : Nat) (s : State) :
    let t := ((s.noteRead addr).setReg x (s.peek addr)).tick k
    t.reg x = s.peek addr ∧ t.f = s.f ∧ t.cycles = s.cycles + k ∧ ReadsOnly addr [x] s t :=
  ⟨by simp, by simp, by simp,
    ((readsOnly_noteRead s addr).trans_registerOnly (registerOnly_setReg _ x _)).trans_registerOnly (registerOnly_tick _ k)⟩

/-- A byte stored at `addr` (R203, R204, R207, R208, R210, R212, R214). -/
theorem store_effect (addr : Word) (v : Byte) (k : Nat) (s : State) :
    let t := (s.memWrite addr v).tick k
    t.f = s.f ∧ t.cycles = s.cycles + k ∧ StoresOnly addr v [] s t :=
  ⟨by simp, by simp, (storesOnly_memWrite s addr v).trans_registerOnly (registerOnly_tick _ k)⟩

theorem loadA_effect (addr : Word) (k : Nat) (s : State) :
    let t := loadA addr k s
    t.a = s.peek addr ∧ t.f = s.f ∧ t.cycles = s.cycles + k ∧ ReadsOnly addr [.a] s t :=
  load_effect .a addr k s

/-- `HL` put to `HL + step`, by number modulo 65536. -/
theorem hl_setPair_tick_toNat (s t : State) (step : Word) (k : Nat) :
    ((t.setPair .hl (s.hl + step)).tick k).hl.toNat = (s.hl.toNat + step.toNat) % 65536 := by
  rw [State.hl_tick, hl_setPair, BitVec.toNat_add]

/-- The load of `A` at the old `HL`, and then `HL` stepped (R216, R218). -/
theorem loadAStep_effect (step : Word) (s : State) :
    let t := loadAStep step s
    t.a = s.peek s.hl ∧ t.hl.toNat = (s.hl.toNat + step.toNat) % 65536 ∧ t.f = s.f ∧ t.cycles = s.cycles + 8 ∧
      ReadsOnly s.hl [.a, .h, .l] s t :=
  have hload := (readsOnly_noteRead s s.hl).trans_registerOnly (registerOnly_setReg _ .a (s.peek s.hl))
  ⟨rfl, hl_setPair_tick_toNat .., s.noteRead_f s.hl, congrArg (· + 8) (s.noteRead_cycles s.hl),
    (hload.trans_registerOnly (registerOnly_setPair_hl _ _)).trans_registerOnly (registerOnly_tick _ 8)⟩

/-- The store of `A` at the old `HL`, and then `HL` stepped (R215, R217). -/
theorem storeAStep_effect (step : Word) (s : State) :
    let t := storeAStep step s
    t.hl.toNat = (s.hl.toNat + step.toNat) % 65536 ∧ t.f = s.f ∧ t.cycles = s.cycles + 8 ∧
      StoresOnly s.hl s.a [.h, .l] s t :=
  ⟨hl_setPair_tick_toNat .., s.memWrite_f s.hl s.a, congrArg (· + 8) (s.memWrite_cycles s.hl s.a),
    ((storesOnly_memWrite s s.hl s.a).trans_registerOnly (registerOnly_setPair_hl _ _)).trans_registerOnly
      (registerOnly_tick _ 8)⟩

/-! ## The encodings, by register codes (30_encoding.md R134) -/

theorem encode_mkLd (x y : Reg8) : encode (mkLd x y) = [byteOf (0x40 + 8 * regCode x + regCode y)] := by
  cases x <;> cases y <;> rfl

theorem encode_mkLdImm (x : Reg8) (n : Byte) : encode (mkLdImm x n) = [byteOf (8 * regCode x + 6), n] := by cases x <;> rfl

theorem encode_mkLdFromHL (x : Reg8) : encode (mkLdFromHL x) = [byteOf (0x40 + 8 * regCode x + 6)] := by cases x <;> rfl

theorem encode_mkLdToHL (x : Reg8) : encode (mkLdToHL x) = [byteOf (0x70 + regCode x)] := by cases x <;> rfl

/-! ## The statements -/

/-- Settles O29: each of the three loads is a value put into a register, the last after a read at the old `HL`. -/
theorem loadRegister : Obligations.LoadRegister := by
  unfold Obligations.LoadRegister
  intro x s
  refine ⟨fun y => ⟨encode_mkLd x y, _, exec_mkLd x y s, ?_⟩, fun n => ⟨encode_mkLdImm x n, _, exec_mkLdImm x n s, ?_⟩,
    encode_mkLdFromHL x, _, exec_mkLdFromHL x s, ?_⟩
  · exact setReg_tick_effect x (s.reg y) 4 s
  · exact setReg_tick_effect x n 8 s
  · exact load_effect x s.hl 8 s

/-- Settles O30: all five are `loadA` (`loadA_effect`), at the address that each computes. -/
theorem Load8.loadA : Obligations.LoadA := by
  unfold Obligations.LoadA
  intro s loads
  have hloads : ∀ {i : Instr} {addr : Word} {k : Nat}, exec i s = .next (Machine.loadA addr k s) → loads i addr k :=
    fun hexec => ⟨_, hexec, loadA_effect ..⟩
  simp only [← highPage_eq]
  exact ⟨⟨rfl, hloads rfl⟩, ⟨rfl, hloads rfl⟩, fun nn => ⟨rfl, hloads rfl⟩, ⟨rfl, hloads rfl⟩, fun n => ⟨rfl, hloads rfl⟩⟩

/-- Settles O31: all seven are one store and a tick (`store_effect`), at the address that each computes. -/
theorem storeByte : Obligations.StoreByte := by
  unfold Obligations.StoreByte
  intro s stores
  have hstores : ∀ {i : Instr} {addr : Word} {v : Byte} {k : Nat}, exec i s = .next ((s.memWrite addr v).tick k) →
      stores i addr v k :=
    fun hexec => ⟨_, hexec, store_effect ..⟩
  simp only [← highPage_eq]
  exact ⟨fun x => ⟨encode_mkLdToHL x, hstores (exec_mkLdToHL x s)⟩, fun n => ⟨rfl, hstores rfl⟩, ⟨rfl, hstores rfl⟩,
    ⟨rfl, hstores rfl⟩, fun nn => ⟨rfl, hstores rfl⟩, ⟨rfl, hstores rfl⟩, fun n => ⟨rfl, hstores rfl⟩⟩

/-- Settles O32: the step down adds 65535, which is `-1` modulo 65536. -/
theorem loadStoreStep : Obligations.LoadStoreStep := by
  unfold Obligations.LoadStoreStep
  intro s stores loads
  exact ⟨⟨rfl, _, rfl, storeAStep_effect 1 s⟩, ⟨rfl, _, rfl, loadAStep_effect 1 s⟩,
    ⟨rfl, _, rfl, storeAStep_effect (-1) s⟩, ⟨rfl, _, rfl, loadAStep_effect (-1) s⟩⟩

end Sys2Proof.Machine
end

section
/-! PROOFS. The 16-bit loads and the stack (42_load16_stack.md R230 to R235; `ADD SP,e` of 44_alu16.md R283): a frame rule for each part not yet
framed, what writing a stack pair leaves, and what a pop finds of a push. -/

namespace Sys2Proof.Machine

/-! ## The frame of each part -/

theorem registerOnly_setF (s : State) (v : Byte) : RegisterOnly [] s (s.setF v) :=
  ⟨((Keeps.refl s).setF v).sameBut (by simp), rfl, rfl, sameMemory_of (by simp) rfl rfl rfl rfl rfl, rfl⟩

theorem registerOnly_setFlags (s : State) (z n h c : Bool) : RegisterOnly [] s (s.setFlags z n h c) := registerOnly_setF ..

theorem pairOnly_setPair (s : State) (p : Pair) (v : Word) : PairOnly p s (s.setPair p v) := by
  have hsp : p ≠ .sp → (s.setPair p v).sp = s.sp := fun h => by
    cases p with
    | sp => exact absurd rfl h
    | _ => rfl
  exact ⟨((Keeps.refl s).setPair p v).sameBut fun _ => reg_setPair s p v, hsp, by simp, by simp,
    sameMemory_of (by simp) (by simp) (by simp) (by simp) (by simp) (by simp), by simp⟩

theorem PairOnly.registerOnly {p : Pair} {s t : State} (h : PairOnly p s t) (hp : p ≠ .sp) : RegisterOnly (pairRegs p) s t := by
  obtain ⟨hbut, hsp, -, hpc, hmem, hports⟩ := h
  exact ⟨hbut, hsp hp, hpc, hmem, hports⟩

theorem PairOnly.tick {p : Pair} {s t : State} (h : PairOnly p s t) (n : Nat) : PairOnly p s (t.tick n) := by
  obtain ⟨hbut, hsp, hf, hpc, hmem, hports⟩ := h
  obtain ⟨hbanks, hram⟩ := hbut.sizes
  exact ⟨hbut, hsp, hf, hpc, hmem.trans_backing (registerOnly_tick t n).sameBacking hbanks hram, hports⟩

theorem RegisterOnly.tick {rs : List Reg8} {s t : State} (h : RegisterOnly rs s t) (n : Nat) : RegisterOnly rs s (t.tick n) := by
  simpa only [List.append_nil] using h.trans (registerOnly_tick t n)

theorem sameBut_push16 (s : State) (v : Word) : SameBut [] s (s.push16 v) := by
  obtain ⟨hreg, -⟩ := push16_frame s v
  exact ((Keeps.refl s).push16 v).sameBut fun r _ => hreg r

theorem sameBut_pop16 (s : State) : SameBut [] s s.pop16.2 := by
  obtain ⟨hreg, -⟩ := pop16_frame s
  exact (Keeps.refl s).pop16.sameBut fun r _ => hreg r

/-- A write of a stack pair writes its 8-bit registers and, for `AF`, the flags. -/
theorem registerOnly_setStackPair (s : State) (q : StackPair) (v : Word) :
    RegisterOnly (stackPairRegs q) s (s.setStackPair q v) := by
  cases q with
  | bc => exact (pairOnly_setPair s .bc v).registerOnly (by decide)
  | de => exact (pairOnly_setPair s .de v).registerOnly (by decide)
  | hl => exact (pairOnly_setPair s .hl v).registerOnly (by decide)
  | af => exact (registerOnly_setReg s .a (hiByte v)).trans (registerOnly_setF _ (loByte v))

/-! ## A stack pair, read and written (10_state.md R22, R23) -/

/-- A stack pair is made of 8-bit registers and `F`. -/
theorem stackPair_congr {s t : State} (hreg : ∀ r, t.reg r = s.reg r) (hf : t.f = s.f) (q : StackPair) :
    t.stackPair q = s.stackPair q := by
  cases q with
  | bc => exact congrArg₂ joinBytes (hreg .b) (hreg .c)
  | de => exact congrArg₂ joinBytes (hreg .d) (hreg .e)
  | hl => exact congrArg₂ joinBytes (hreg .h) (hreg .l)
  | af => exact congrArg₂ joinBytes (hreg .a) hf

/-- A stack pair without flags reads back as written, and its write leaves `F` alone. -/
theorem stackPair_setStackPair {q : StackPair} (hq : q ≠ .af) (s : State) (v : Word) :
    (s.setStackPair q v).stackPair q = v ∧ (s.setStackPair q v).f = s.f := by
  cases q with
  | bc => exact ⟨s.pair_setPair_self .bc v, rfl⟩
  | de => exact ⟨s.pair_setPair_self .de v, rfl⟩
  | hl => exact ⟨s.pair_setPair_self .hl v, rfl⟩
  | af => exact absurd rfl hq

theorem and_highNibble_toNat (v : Byte) : (v &&& 0xF0).toNat = v.toNat / 16 * 16 := by
  have hmask : v &&& (0xF0 : Byte) = v >>> 4 <<< 4 := (BitVec.shiftLeft_ushiftRight (x := v) (n := 4)).symm
  rw [hmask, BitVec.toNat_shiftLeft, BitVec.toNat_ushiftRight, Nat.shiftRight_eq_div_pow, Nat.shiftLeft_eq]
  exact Nat.mod_eq_of_lt ((Nat.div_mul_le_self _ _).trans_lt v.isLt)

/-- Clearing a low nibble that is zero changes nothing. -/
theorem and_highNibble_of_low {v : Byte} (h : v &&& 0x0F = 0) : v &&& 0xF0 = v := by
  have hlow : v.toNat % 16 = 0 := by rw [← lowNibble_eq, lowNibble, h]; rfl
  apply BitVec.eq_of_toNat_eq
  rw [and_highNibble_toNat]
  omega

/-- The flags of `v & 0xF0` are bits 7 to 4 of `v` (10_state.md R24). -/
theorem flagsAre_setF (s : State) (v : Byte) :
    FlagsAre (s.setF v) (v.getLsbD 7) (v.getLsbD 6) (v.getLsbD 5) (v.getLsbD 4) := by
  have hbit : ∀ i, (v &&& 0xF0).getLsbD i = (v.getLsbD i && (0xF0 : Byte).getLsbD i) := fun i => BitVec.getLsbD_and
  refine ⟨?_, ?_, ?_, ?_, setF_low s v⟩
  all_goals exact (hbit _).trans (Bool.and_true _)

/-- Where the low nibble of `F` is zero, a stack pair written with its own value changes nothing. -/
theorem setStackPair_self {s : State} (h : s.f &&& 0x0F = 0) (q : StackPair) : s.setStackPair q (s.stackPair q) = s := by
  cases q <;>
    simp only [State.setStackPair, State.setPair, State.setF, State.stackPair, State.bc, State.de, State.hl, State.af,
      hiByte_joinBytes, loByte_joinBytes, and_highNibble_of_low h]

/-! ## What a pop finds of a push -/

theorem word_ext {v w : Word} (hhi : hiByte v = hiByte w) (hlo : loByte v = loByte w) : v = w := by
  rw [← joinBytes_hiByte_loByte v, hhi, hlo, joinBytes_hiByte_loByte]

/-- RAM lies from 0x8000 up. -/
theorem le_of_locate_cell {s : State} {addr : Word} {k : ArrayId} {i : Nat} (h : s.locate addr = .cell k i) :
    0x8000 ≤ addr.toNat := by
  by_contra hlt
  rw [locate_rom (by omega)] at h
  cases h

/-- What is RAM in one state is no port in any other. -/
theorem locate_ne_port_of_cell {s : State} {addr : Word} {k : ArrayId} {i : Nat} (h : s.locate addr = .cell k i) (t : State) :
    t.locate addr ≠ .port := by
  rw [Ne, locate_eq_port, ← locate_eq_port (s := s), h]
  simp

section
variable {v w : Word} {s t u : State} {j k : ArrayId} {m n : Nat}

/-- Two stack bytes in different RAM bytes hold the pushed word. -/
theorem PushedWord.peek (h : PushedWord v s t) (hhi : s.locate (s.sp - 1) = .cell j m) (hlo : s.locate (s.sp - 2) = .cell k n)
    (hne : (j, m) ≠ (k, n)) : t.peek (s.sp - 1) = hiByte v ∧ t.peek (s.sp - 2) = loByte v := by
  obtain ⟨-, ⟨-, -, -, hfirst, -⟩, ⟨-, -, hother, hsecond, -⟩⟩ := h
  have hloc := locate_memWrite (s := s) (le_of_locate_cell hhi) (hiByte v)
  rw [hloc] at hsecond
  refine ⟨(hother (le_of_locate_cell hlo) _ (locate_ne_port_of_cell hhi _) (.inl ?_)).trans (hfirst _ _ hhi),
    hsecond _ _ hlo⟩
  rw [hloc, hloc, hhi, hlo]
  simpa using hne

/-- `Pop16` after `Push16` gives the word and `SP` back, where the stack is two different RAM bytes (R235). -/
theorem PoppedWord.of_pushedWord (h : PushedWord v s t) (hhi : s.locate (s.sp - 1) = .cell j m)
    (hlo : s.locate (s.sp - 2) = .cell k n) (hne : (j, m) ≠ (k, n)) (hpop : PoppedWord w t u) : w = v ∧ u.sp = s.sp := by
  obtain ⟨hpeekHi, hpeekLo⟩ := h.peek hhi hlo hne
  obtain ⟨hpushed, -⟩ := h
  obtain ⟨hsp, hwlo, hwhi, -, -⟩ := hpop
  obtain ⟨hmem, -⟩ := sameMemory_noteRead t t.sp
  have hsp1 : s.sp - 2 + 1 = s.sp - 1 := by bv_omega
  rw [hpushed] at hsp hwlo hwhi hmem
  rw [hsp1, hmem _ (locate_ne_port_of_cell hhi _)] at hwhi
  exact ⟨word_ext (hwhi.trans hpeekHi) (hwlo.trans hpeekLo), hsp.trans (BitVec.sub_add_cancel ..)⟩

end

/-! ## What each shape of instruction does -/

@[simp] theorem State.pair_tick (s : State) (n : Nat) (p : Pair) : (s.tick n).pair p = s.pair p := by cases p <;> rfl

/-- A word put into a pair (R230, R232). -/
theorem setPair_tick_effect (p : Pair) (v : Word) (k : Nat) (s : State) :
    let t := (s.setPair p v).tick k
    t.pair p = v ∧ t.cycles = s.cycles + k ∧ PairOnly p s t :=
  ⟨by simp, by simp, (pairOnly_setPair s p v).tick k⟩

/-- `LD (nn),SP` is two stores of a byte and a tick (R231). -/
theorem memWrite16_tick_effect (addr v : Word) (k : Nat) (s : State) :
    let t := (s.memWrite16 addr v).tick k
    t.f = s.f ∧ t.cycles = s.cycles + k ∧ SameBut [] s t ∧ t.sp = s.sp ∧ t.pc = s.pc ∧
      StoredByte addr (loByte v) s (s.memWrite addr (loByte v)) ∧
      StoredByte (addr + 1) (hiByte v) (s.memWrite addr (loByte v)) t := by
  obtain ⟨hbut, hsp, hpc, hlo⟩ := storesOnly_memWrite s addr (loByte v)
  obtain ⟨hf, hcycles, kbut, ksp, kpc, hhi⟩ := store_effect (addr + 1) (hiByte v) k (s.memWrite addr (loByte v))
  exact ⟨hf.trans (s.memWrite_f ..), hcycles.trans (congrArg (· + k) (s.memWrite_cycles ..)), hbut.trans kbut, ksp.trans hsp,
    kpc.trans hpc, hlo, hhi⟩

/-- The flags of `spadd`, by number (44_alu16.md R284). -/
theorem flagsAre_spadd (s t : State) (e : Byte) :
    let r := spadd s.spaddFlags s.sp e
    let fl := spaddFlagsNat s.spaddFlags s.sp e
    FlagsAre (t.setFlags false false r.2.1 r.2.2) false false fl.1 fl.2 := by
  obtain ⟨-, hflags⟩ := spadd_eq s.spaddFlags s.sp e
  simp only [← hflags]
  exact flagsAre_setFlags ..

/-- `LD HL,SP+e` (R233). -/
theorem ldHLSpadd_effect (e : Byte) (s : State) :
    let t := ldHLSpadd e s
    let fl := spaddFlagsNat s.spaddFlags s.sp e
    t.hl.toNat = (s.sp.toNat + sextNat e) % 65536 ∧ FlagsAre t false false fl.1 fl.2 ∧ t.cycles = s.cycles + 12 ∧
      RegisterOnly [.h, .l] s t := by
  obtain ⟨hsum, -⟩ := spadd_eq s.spaddFlags s.sp e
  exact ⟨by simpa only [ldHLSpadd, State.hl_tick, State.hl_setFlags, hl_setPair] using hsum,
    (flagsAre_tick ..).mpr (flagsAre_spadd s _ e), rfl, ((registerOnly_setPair_hl s _).trans (registerOnly_setFlags ..)).tick 12⟩

/-- `ADD SP,e` (R283). -/
theorem addSpadd_effect (e : Byte) (s : State) :
    let t := addSpadd e s
    let fl := spaddFlagsNat s.spaddFlags s.sp e
    t.sp.toNat = (s.sp.toNat + sextNat e) % 65536 ∧ FlagsAre t false false fl.1 fl.2 ∧ t.cycles = s.cycles + 16 ∧
      SameBut [] s t ∧ t.pc = s.pc ∧ SameMemory s t ∧ t.ports = s.ports := by
  obtain ⟨hsum, -⟩ := spadd_eq s.spaddFlags s.sp e
  obtain ⟨hbut, -, -, hpc, hmem, hports⟩ := pairOnly_setPair s .sp (spadd s.spaddFlags s.sp e).1
  obtain ⟨hbanks, hram⟩ := hbut.sizes
  have hrest : RegisterOnly [] (s.setPair .sp (spadd s.spaddFlags s.sp e).1) (addSpadd e s) :=
    (registerOnly_setFlags ..).tick 16
  have hback := hrest.sameBacking
  obtain ⟨kbut, -, kpc, -, kports⟩ := hrest
  exact ⟨hsum, (flagsAre_tick ..).mpr (flagsAre_spadd s _ e), rfl, hbut.trans kbut, kpc.trans hpc,
    hmem.trans_backing hback hbanks hram, kports.trans hports⟩

/-- `PUSH qq` (R234). -/
theorem push_effect (q : StackPair) (s : State) :
    let t := push q s
    PushedWord (s.stackPair q) s t ∧ t.f = s.f ∧ t.pc = s.pc ∧ SameBut [] s t ∧ t.cycles = s.cycles + 16 := by
  obtain ⟨-, hf, hpc, -, -, hcycles⟩ := push16_frame s (s.stackPair q)
  have hbut := sameBut_push16 s (s.stackPair q)
  obtain ⟨hbanks, hram⟩ := hbut.sizes
  have htick := registerOnly_tick (s.push16 (s.stackPair q)) 16
  exact ⟨(pushedWord_push16 s _).congr htick.sameBacking rfl hbanks hram, hf, hpc, hbut, congrArg (· + 16) hcycles⟩

/-- What `POP qq` leaves of everything but the pair itself (R235). -/
theorem pop_frame (q : StackPair) (s : State) :
    let t := pop q s
    PoppedWord s.pop16.1 s t ∧ t.pc = s.pc ∧ SameBut (stackPairRegs q) s t ∧ t.cycles = s.cycles + 12 := by
  obtain ⟨-, -, hpc, -, -, hcycles⟩ := pop16_frame s
  have hbut := sameBut_pop16 s
  obtain ⟨hbanks, hram⟩ := hbut.sizes
  have hwrite : RegisterOnly (stackPairRegs q) s.pop16.2 (pop q s) := (registerOnly_setStackPair ..).tick 12
  have hback := hwrite.sameBacking
  obtain ⟨kbut, ksp, kpc, -⟩ := hwrite
  exact ⟨(poppedWord_pop16 s).congr hback ksp hbanks hram, kpc.trans hpc, hbut.trans kbut,
    congrArg (· + 12) ((setStackPair_cycles ..).trans hcycles)⟩

/-! ## The encodings, by pair codes (30_encoding.md R135, R136) -/

theorem encode_mkLdPair (p : Pair) (nn : Word) :
    encode (mkLdPair p nn) = [byteOf (16 * pairCode p + 1), loByte nn, hiByte nn] := by cases p <;> rfl

theorem encode_mkPush (q : StackPair) : encode (mkPush q) = [byteOf (0xC5 + 16 * stackPairCode q)] := by cases q <;> rfl

theorem encode_mkPop (q : StackPair) : encode (mkPop q) = [byteOf (0xC1 + 16 * stackPairCode q)] := by cases q <;> rfl

/-! ## The statements -/

/-- Settles O33: both loads are a word put into a pair (`setPair_tick_effect`). -/
theorem loadPair : Obligations.LoadPair := by
  unfold Obligations.LoadPair
  intro s
  exact ⟨fun p nn => ⟨encode_mkLdPair p nn, _, exec_mkLdPair p nn s, setPair_tick_effect p nn 12 s⟩, rfl, _, rfl,
    setPair_tick_effect .sp s.hl 8 s⟩

/-- Settles O34, by the two stores of `memWrite16_tick_effect`. -/
theorem storeSP : Obligations.StoreSP := by
  unfold Obligations.StoreSP
  intro s nn
  exact ⟨rfl, _, rfl, memWrite16_tick_effect nn s.sp 20 s⟩

/-- Settles O35: both write `spadd` of `SP` and its flags (`spadd_eq`), into `HL` or into `SP`. -/
theorem spPlusDisplacement : Obligations.SpPlusDisplacement := by
  unfold Obligations.SpPlusDisplacement
  intro s e
  exact ⟨⟨rfl, _, rfl, ldHLSpadd_effect e s⟩, rfl, _, rfl, addSpadd_effect e s⟩

/-- Settles O36, by `push_effect`. -/
theorem pushStoresThePair : Obligations.PushStoresThePair := by
  unfold Obligations.PushStoresThePair
  intro q s
  exact ⟨encode_mkPush q, _, exec_mkPush q s, push_effect q s⟩

/-- Settles O37: the frame is `pop_frame`'s, the pair what its write leaves (`stackPair_setStackPair`; for `AF` the masked byte). -/
theorem popLoadsThePair : Obligations.PopLoadsThePair := by
  unfold Obligations.PopLoadsThePair
  intro q s
  obtain ⟨hpopped, hpc, hbut, hcycles⟩ := pop_frame q s
  refine ⟨encode_mkPop q, _, _, exec_mkPop q s, hpopped, fun hq => ?_, fun hq => ?_, hpc, hbut, hcycles⟩
  · obtain ⟨hpair, hf⟩ := stackPair_setStackPair hq s.pop16.2 s.pop16.1
    obtain ⟨-, hf', -⟩ := pop16_frame s
    exact ⟨(stackPair_congr (State.reg_tick _ 12) (State.tick_f ..) q).trans hpair, hf.trans hf'⟩
  · subst hq
    exact ⟨rfl, and_highNibble_toNat _, (flagsAre_tick ..).mpr (flagsAre_setF _ _)⟩

/-- Settles O38: the pop finds the pushed word (`PoppedWord.of_pushedWord`), which is what the pair still holds, so its write changes nothing. -/
theorem pushThenPop : Obligations.PushThenPop := by
  unfold Obligations.PushThenPop
  intro q s j k m n hlow hhi hlo hne
  obtain ⟨hpushed, hf, -, ⟨hreg, -⟩, -⟩ := push_effect q s
  set t := push q s
  obtain ⟨hregPop, hfPop, -⟩ := pop16_frame t
  have hreg' : ∀ r, t.pop16.2.reg r = s.reg r := fun r => (hregPop r).trans (hreg r List.not_mem_nil)
  have hf' : t.pop16.2.f = s.f := hfPop.trans hf
  obtain ⟨hword, hsp⟩ := PoppedWord.of_pushedWord hpushed hhi hlo hne (poppedWord_pop16 t)
  have hpair : t.pop16.2.stackPair q = s.stackPair q := stackPair_congr hreg' hf' q
  have hpop : pop q t = t.pop16.2.tick 12 := by
    rw [pop, hword, ← hpair, setStackPair_self (hf' ▸ hlow)]
  refine ⟨t, _, exec_mkPush q s, (exec_mkPop q t).trans (congrArg _ hpop), ?_, hf', hsp, fun r => ?_⟩
  · exact (stackPair_congr (State.reg_tick _ 12) (State.tick_f ..) q).trans hpair
  · exact (State.reg_tick ..).trans (hreg' r)

end Sys2Proof.Machine
end

section
/-! PROOFS. 8-bit arithmetic and logic (43_alu8.md R240 to R271): an instruction writes a result and its flags, into a register or into the byte
at `HL`, and what is written is the ALU function by number. -/

namespace Sys2Proof.Machine

/-! ## What each shape of instruction does -/

/-- A result put into a register, with its flags. -/
theorem setReg_setFlags_tick_effect (x : Reg8) (r : AluRes) (k : Nat) (s : State) :
    let t := ((s.setReg x r.res).setFlags r.z r.n r.h r.c).tick k
    t.reg x = r.res ∧ FlagsAre t r.z r.n r.h r.c ∧ t.cycles = s.cycles + k ∧ RegisterOnly [x] s t :=
  ⟨by simp, (flagsAre_tick ..).mpr (flagsAre_setFlags ..), by simp,
    ((registerOnly_setReg s x r.res).trans (registerOnly_setFlags ..)).tick k⟩

/-- Flags alone (R270, R271). -/
theorem setFlags_tick_effect (z n h c : Bool) (k : Nat) (s : State) :
    let t := (s.setFlags z n h c).tick k
    FlagsAre t z n h c ∧ t.cycles = s.cycles + k ∧ RegisterOnly [] s t :=
  ⟨(flagsAre_tick ..).mpr (flagsAre_setFlags ..), rfl, (registerOnly_setFlags ..).tick k⟩

/-- What `CP` writes is no register; every other ALU operation writes `A`. -/
theorem registerOnly_setAlu (s : State) (op : AluOp) (r : AluRes) : RegisterOnly [.a] s (s.setAlu op r) := by
  have hset := fun v : Byte => (registerOnly_setReg s .a v).trans (registerOnly_setFlags _ r.z r.n r.h r.c)
  cases op with
  | cp => exact hset s.a
  | _ => exact hset r.res

/-- An ALU operation on `A` and the value `x`, whole. -/
theorem aluOn_effect (op : AluOp) (x : Byte) (k : Nat) (s : State) :
    let t := aluOn op x k s
    AluResult op x s t ∧ t.cycles = s.cycles + k ∧ RegisterOnly [.a] s t :=
  ⟨aluResult_aluOn .., congrArg (· + k) (setAlu_cycles ..), (registerOnly_setAlu ..).tick k⟩

/-- The result of an ALU operation looks at `A` and `F` of the state before, which a read of the Bus keeps. -/
theorem aluResult_noteRead (op : AluOp) (x : Byte) (addr : Word) (s t : State) :
    AluResult op x (s.noteRead addr) t ↔ AluResult op x s t := by
  rw [noteRead_eq]
  split <;> exact Iff.rfl

/-- An ALU operation on `A` and the byte read at `HL` (R241, R244, R247, R250, R253, R256, R259, R262). -/
theorem aluHL_effect (op : AluOp) (s : State) :
    let t := aluHL op s
    AluResult op (s.peek s.hl) s t ∧ t.cycles = s.cycles + 8 ∧ ReadsOnly s.hl [.a] s t := by
  obtain ⟨hresult, hcycles, hframe⟩ := aluOn_effect op (s.peek s.hl) 8 (s.noteRead s.hl)
  exact ⟨(aluResult_noteRead ..).mp hresult, hcycles.trans (congrArg (· + 8) (s.noteRead_cycles s.hl)),
    (readsOnly_noteRead s s.hl).trans_registerOnly hframe⟩

/-- A store at the address just read is a read and then a store. -/
theorem StoresOnly.after_noteRead {addr : Word} {v : Byte} {rs : List Reg8} {s t : State}
    (h : StoresOnly addr v rs (s.noteRead addr) t) : ReadsThenStores addr v rs s t := by
  obtain ⟨hbut, hsp, hpc, -⟩ := readsOnly_noteRead s addr
  obtain ⟨kbut, ksp, kpc, hstored⟩ := h
  exact ⟨hbut.trans kbut, ksp.trans hsp, kpc.trans hpc, hstored⟩

/-- The byte at `HL` read, and a result of it stored there with its flags (R265, R267). -/
theorem stepHL_effect (fn : Byte → Bool → AluRes) (s : State) :
    let r := fn (s.peek s.hl) s.flagC
    let t := stepHL fn s
    ReadsThenStores s.hl r.res [] s t ∧ FlagsAre t r.z r.n r.h r.c ∧ t.cycles = s.cycles + 12 := by
  intro r t
  have hframe : StoresOnly s.hl r.res [] (s.noteRead s.hl) t :=
    (storesOnly_memWrite (s.noteRead s.hl) s.hl r.res).trans_registerOnly ((registerOnly_setFlags ..).tick 12)
  exact ⟨hframe.after_noteRead, (flagsAre_tick ..).mpr (flagsAre_setFlags ..),
    congrArg (· + 12) ((State.memWrite_cycles ..).trans (s.noteRead_cycles s.hl))⟩

/-! ## The increments by number (40_alu_primitives.md R164) -/

theorem inc8_res_eq (a : Byte) (c : Bool) : (inc8 a c).res = byteOf (a.toNat + 1) :=
  BitVec.eq_of_toNat_eq (inc8_eq a c).1

theorem dec8_res_eq (a : Byte) (c : Bool) : (dec8 a c).res = byteOf (a.toNat + 255) :=
  BitVec.eq_of_toNat_eq (dec8_eq a c).1

/-- The flags of `inc8`, by number. -/
theorem flagsAre_inc8 {a : Byte} {c : Bool} {t : State} (h : let r := inc8 a c; FlagsAre t r.z r.n r.h r.c) :
    FlagsAre t (decide (a.toNat = 0xFF)) false (decide (a.toNat % 16 = 0x0F)) c := by
  obtain ⟨-, hz, hh⟩ := inc8_eq a c
  have hflags : FlagsAre t (inc8 a c).z false (inc8 a c).h c := h
  rwa [hz, hh] at hflags

/-- The flags of `dec8`, by number. -/
theorem flagsAre_dec8 {a : Byte} {c : Bool} {t : State} (h : let r := dec8 a c; FlagsAre t r.z r.n r.h r.c) :
    FlagsAre t (decide (a.toNat = 1)) true (decide (a.toNat % 16 = 0)) c := by
  obtain ⟨-, hz, hh⟩ := dec8_eq a c
  have hflags : FlagsAre t (dec8 a c).z true (dec8 a c).h c := h
  rwa [hz, hh] at hflags

/-- `cpl8` by number (R165). -/
theorem cpl8_res_toNat (a : Byte) (z c : Bool) : (cpl8 a z c).res.toNat = 255 - a.toNat := by
  have hnot : a ^^^ 0xFF = ~~~a := BitVec.xor_allOnes
  exact (congrArg BitVec.toNat hnot).trans BitVec.toNat_not

/-! ## The encodings, by operation and register codes (30_encoding.md R134, R137) -/

theorem encode_mkAlu (op : AluOp) (x : Reg8) : encode (mkAlu op x) = [byteOf (0x80 + 8 * aluCode op + regCode x)] := by
  cases op <;> cases x <;> rfl

theorem encode_mkAluHL (op : AluOp) : encode (mkAluHL op) = [byteOf (0x86 + 8 * aluCode op)] := by cases op <;> rfl

theorem encode_mkAluImm (op : AluOp) (n : Byte) : encode (mkAluImm op n) = [byteOf (0xC6 + 8 * aluCode op), n] := by
  cases op <;> rfl

theorem encode_mkInc (x : Reg8) : encode (mkInc x) = [byteOf (8 * regCode x + 4)] := by cases x <;> rfl

theorem encode_mkDec (x : Reg8) : encode (mkDec x) = [byteOf (8 * regCode x + 5)] := by cases x <;> rfl

/-! ## The statements -/

/-- Every ALU operation in its three forms, on a register, on `(HL)` and on `n` (R240 to R263). -/
theorem alu_forms (op : AluOp) (s : State) :
    (∀ x, encode (mkAlu op x) = [byteOf (0x80 + 8 * aluCode op + regCode x)] ∧
      ∃ t, exec (mkAlu op x) s = .next t ∧ AluResult op (s.reg x) s t ∧ t.cycles = s.cycles + 4 ∧ RegisterOnly [.a] s t) ∧
    (encode (mkAluHL op) = [byteOf (0x86 + 8 * aluCode op)] ∧
      ∃ t, exec (mkAluHL op) s = .next t ∧ AluResult op (s.peek s.hl) s t ∧ t.cycles = s.cycles + 8 ∧ ReadsOnly s.hl [.a] s t) ∧
    (∀ n, encode (mkAluImm op n) = [byteOf (0xC6 + 8 * aluCode op), n] ∧
      ∃ t, exec (mkAluImm op n) s = .next t ∧ AluResult op n s t ∧ t.cycles = s.cycles + 8 ∧ RegisterOnly [.a] s t) :=
  ⟨fun x => ⟨encode_mkAlu op x, _, exec_mkAlu op x s, aluOn_effect op (s.reg x) 4 s⟩,
    ⟨encode_mkAluHL op, _, exec_mkAluHL op s, aluHL_effect op s⟩,
    fun n => ⟨encode_mkAluImm op n, _, exec_mkAluImm op n s, aluOn_effect op n 8 s⟩⟩

/-- Settles O39: `ADD` and `ADC` are two of the operations of `alu_forms`. -/
theorem addAdc : Obligations.AddAdc := by
  unfold Obligations.AddAdc
  exact fun op s _ => alu_forms op s

/-- Settles O40: `SUB`, `SBC` and `CP` are three of the operations of `alu_forms`. -/
theorem subSbcCp : Obligations.SubSbcCp := by
  unfold Obligations.SubSbcCp
  exact fun op s _ => alu_forms op s

/-- Settles O41: `AND`, `XOR` and `OR` are three of the operations of `alu_forms`. -/
theorem andXorOr : Obligations.AndXorOr := by
  unfold Obligations.AndXorOr
  exact fun op s _ => alu_forms op s

/-- Settles O42: a result put into the register (`setReg_setFlags_tick_effect`), which `inc8_eq` and `dec8_eq` give by number. -/
theorem incDecRegister : Obligations.IncDecRegister := by
  unfold Obligations.IncDecRegister
  intro x s
  refine ⟨⟨encode_mkInc x, _, exec_mkInc x s, ?_⟩, encode_mkDec x, _, exec_mkDec x s, ?_⟩
  · obtain ⟨hreg, hflags, hframe⟩ := setReg_setFlags_tick_effect x (inc8 (s.reg x) s.flagC) 4 s
    obtain ⟨hres, -⟩ := inc8_eq (s.reg x) s.flagC
    exact ⟨(congrArg BitVec.toNat hreg).trans hres, flagsAre_inc8 hflags, hframe⟩
  · obtain ⟨hreg, hflags, hframe⟩ := setReg_setFlags_tick_effect x (dec8 (s.reg x) s.flagC) 4 s
    obtain ⟨hres, -⟩ := dec8_eq (s.reg x) s.flagC
    exact ⟨(congrArg BitVec.toNat hreg).trans hres, flagsAre_dec8 hflags, hframe⟩

/-- Settles O43: one read and one store at `HL` (`stepHL_effect`), whatever lies there. -/
theorem incDecAtHL : Obligations.IncDecAtHL := by
  unfold Obligations.IncDecAtHL
  intro s v
  refine ⟨⟨rfl, _, rfl, ?_⟩, rfl, _, rfl, ?_⟩
  · obtain ⟨hstored, hflags, hcycles⟩ := stepHL_effect inc8 s
    exact ⟨inc8_res_eq v s.flagC ▸ hstored, flagsAre_inc8 hflags, hcycles⟩
  · obtain ⟨hstored, hflags, hcycles⟩ := stepHL_effect dec8 s
    exact ⟨dec8_res_eq v s.flagC ▸ hstored, flagsAre_dec8 hflags, hcycles⟩

/-- Settles O44: the result by number is `adjustA_result`'s, the frame that of a result put into `A`. -/
theorem decimalAdjust : Obligations.DecimalAdjust := by
  unfold Obligations.DecimalAdjust
  intro s r
  obtain ⟨hres, hflags⟩ := adjustA_result s
  obtain ⟨-, -, hframe⟩ := setReg_setFlags_tick_effect .a (daa s.a s.flagN s.flagH s.flagC) 4 s
  exact ⟨rfl, _, exec_daa s, hres, hflags, hframe⟩

/-- Settles O46: `CPL` puts a result into `A`; `SCF` and `CCF` write flags alone. -/
theorem cplScfCcf : Obligations.CplScfCcf := by
  unfold Obligations.CplScfCcf
  intro s
  obtain ⟨hreg, hflags, hframe⟩ := setReg_setFlags_tick_effect .a (cpl8 s.a s.flagZ s.flagC) 4 s
  exact ⟨⟨rfl, _, rfl, (congrArg BitVec.toNat hreg).trans (cpl8_res_toNat ..), hflags, hframe⟩,
    ⟨rfl, _, rfl, setFlags_tick_effect s.flagZ false false true 4 s⟩,
    rfl, _, rfl, setFlags_tick_effect s.flagZ false false (!s.flagC) 4 s⟩

end Sys2Proof.Machine
end

section
/-! PROOFS. 16-bit arithmetic on a pair (44_alu16.md R280 to R282): a sum put into `HL` with its flags, and a pair stepped up or down without. -/

namespace Sys2Proof.Machine

/-! ## What each instruction does -/

/-- `ADD HL,rr` (R280): the sum and the two carries are those of `add16` (R162), Zero is the one before. -/
theorem addHLPair_effect (p : Pair) (s : State) :
    let t := addHLPair p s
    let x := s.hl.toNat
    let y := (s.pair p).toNat
    t.hl.toNat = (x + y) % 65536 ∧
      FlagsAre t s.flagZ false (decide (x % 4096 + y % 4096 > 0x0FFF)) (decide (x + y > 0xFFFF)) ∧
      t.cycles = s.cycles + 8 ∧ RegisterOnly [.h, .l] s t := by
  intro t x y
  obtain ⟨hsum, hh, hc⟩ := add16_eq s.hl (s.pair p)
  have hflags : FlagsAre t s.flagZ false (add16 s.hl (s.pair p)).2.1 (add16 s.hl (s.pair p)).2.2 :=
    (flagsAre_tick ..).mpr (flagsAre_setFlags ..)
  rw [hh, hc] at hflags
  exact ⟨(congrArg BitVec.toNat (hl_setPair s _)).trans hsum, hflags, rfl,
    ((registerOnly_setPair_hl s _).trans (registerOnly_setFlags ..)).tick 8⟩

/-- `INC rr` (R281). -/
theorem incPair_effect (p : Pair) (s : State) :
    let t := incPair p s
    (t.pair p).toNat = ((s.pair p).toNat + 1) % 65536 ∧ t.cycles = s.cycles + 8 ∧ PairOnly p s t := by
  obtain ⟨hpair, hframe⟩ := setPair_tick_effect p (s.pair p + 1) 8 s
  exact ⟨(congrArg BitVec.toNat hpair).trans (BitVec.toNat_add ..), hframe⟩

/-- `DEC rr` (R282): one less is 65535 more, modulo 65536. -/
theorem decPair_effect (p : Pair) (s : State) :
    let t := decPair p s
    (t.pair p).toNat = ((s.pair p).toNat + 65535) % 65536 ∧ t.cycles = s.cycles + 8 ∧ PairOnly p s t := by
  obtain ⟨hpair, hframe⟩ := setPair_tick_effect p (s.pair p - 1) 8 s
  have hsub : (s.pair p - 1).toNat = ((s.pair p).toNat + 65535) % 65536 := by
    rw [BitVec.toNat_sub, Nat.add_comm]
    rfl
  exact ⟨(congrArg BitVec.toNat hpair).trans hsub, hframe⟩

/-! ## The encodings, by pair codes (30_encoding.md R135) -/

theorem encode_mkAddHL (p : Pair) : encode (mkAddHL p) = [byteOf (16 * pairCode p + 9)] := by cases p <;> rfl

theorem encode_mkIncPair (p : Pair) : encode (mkIncPair p) = [byteOf (16 * pairCode p + 3)] := by cases p <;> rfl

theorem encode_mkDecPair (p : Pair) : encode (mkDecPair p) = [byteOf (16 * pairCode p + 11)] := by cases p <;> rfl

/-! ## The statements, in a namespace of their own: the model's `addHLPair` already has the first one's name -/

namespace Alu16

/-- Settles O47, by `addHLPair_effect`. -/
theorem addHLPair : Obligations.AddHLPair := by
  unfold Obligations.AddHLPair
  intro p s
  exact ⟨encode_mkAddHL p, _, exec_mkAddHL p s, addHLPair_effect p s⟩

/-- Settles O48: each is a word put into the pair, by number in `incPair_effect` and `decPair_effect`. -/
theorem incDecPair : Obligations.IncDecPair := by
  unfold Obligations.IncDecPair
  intro p s
  exact ⟨⟨encode_mkIncPair p, _, exec_mkIncPair p s, incPair_effect p s⟩,
    encode_mkDecPair p, _, exec_mkDecPair p s, decPair_effect p s⟩

end Alu16

end Sys2Proof.Machine
end

section
/-! PROOFS. Rotates, shifts and bit operations (45_rotate_shift_bit.md R290 to R293, R300 to R321): a result put into a register or into the byte
at `HL`, with the flags of a shift, of a tested bit, or none. -/

namespace Sys2Proof.Machine

/-! ## The shifts by number (40_alu_primitives.md R166 to R173) -/

/-- The byte a shift stores, from its number. -/
theorem shiftFn_res_eq (k : ShiftOp) (v : Byte) (cin : Bool) :
    (shiftFn k v cin).1 = byteOf (shiftNat k v.toNat cin.toNat).1 := by
  obtain ⟨hres, -⟩ := shiftFn_eq k v cin
  rw [← hres, byteOf, BitVec.ofNat_toNat, BitVec.setWidth_eq]

/-- The flags of a shift whose Zero is that of its result. -/
theorem flagsAre_shiftFn {k : ShiftOp} {v : Byte} {cin : Bool} {t : State}
    (h : FlagsAre t ((shiftFn k v cin).1 == 0) false false (shiftFn k v cin).2) :
    let r := shiftNat k v.toNat cin.toNat
    FlagsAre t (decide (r.1 = 0)) false false r.2 := by
  obtain ⟨hres, hcarry⟩ := shiftFn_eq k v cin
  have hzero : ((shiftFn k v cin).1 == 0) = decide ((shiftFn k v cin).1.toNat = 0) := beq_zero_eq _
  rwa [hzero, hres, hcarry] at h

/-! ## What each shape of instruction does -/

/-- `RLCA`, `RRCA`, `RLA`, `RRA`: a shift of `A` with Zero forced to 0 (R290 to R293). -/
theorem shiftA_effect (k : ShiftOp) (s : State) :
    let t := shiftA k s
    let r := shiftNat k s.a.toNat s.flagC.toNat
    t.a.toNat = r.1 ∧ FlagsAre t false false false r.2 ∧ t.cycles = s.cycles + 4 ∧ RegisterOnly [.a] s t := by
  intro t r
  obtain ⟨hres, hcarry⟩ := shiftFn_eq k s.a s.flagC
  obtain ⟨hreg, hflags, hframe⟩ :=
    setReg_setFlags_tick_effect .a ⟨(shiftFn k s.a s.flagC).1, false, false, false, (shiftFn k s.a s.flagC).2⟩ 4 s
  exact ⟨(congrArg BitVec.toNat hreg).trans hres, hcarry ▸ hflags, hframe⟩

/-- A shift of a register (R300, R302, ..., R314). -/
theorem shiftReg_effect (k : ShiftOp) (x : Reg8) (s : State) :
    let t := shiftReg k x s
    let r := shiftNat k (s.reg x).toNat s.flagC.toNat
    (t.reg x).toNat = r.1 ∧ FlagsAre t (decide (r.1 = 0)) false false r.2 ∧ t.cycles = s.cycles + 8 ∧
      RegisterOnly [x] s t := by
  intro t r
  obtain ⟨hres, -⟩ := shiftFn_eq k (s.reg x) s.flagC
  obtain ⟨hreg, hflags, hframe⟩ := setReg_setFlags_tick_effect x
    ⟨(shiftFn k (s.reg x) s.flagC).1, (shiftFn k (s.reg x) s.flagC).1 == 0, false, false, (shiftFn k (s.reg x) s.flagC).2⟩ 8 s
  exact ⟨(congrArg BitVec.toNat hreg).trans hres, flagsAre_shiftFn hflags, hframe⟩

/-- A shift of the byte at `HL` (R301, R303, ..., R315). -/
theorem shiftHL_effect (k : ShiftOp) (s : State) :
    let t := shiftHL k s
    let r := shiftNat k (s.peek s.hl).toNat s.flagC.toNat
    ReadsThenStores s.hl (byteOf r.1) [] s t ∧ FlagsAre t (decide (r.1 = 0)) false false r.2 ∧
      t.cycles = s.cycles + 16 := by
  intro t r
  have hframe : StoresOnly s.hl (shiftFn k (s.peek s.hl) s.flagC).1 [] (s.noteRead s.hl) t :=
    (storesOnly_memWrite (s.noteRead s.hl) s.hl _).trans_registerOnly ((registerOnly_setFlags ..).tick 16)
  exact ⟨shiftFn_res_eq k _ s.flagC ▸ hframe.after_noteRead,
    flagsAre_shiftFn ((flagsAre_tick ..).mpr (flagsAre_setFlags ..)),
    congrArg (· + 16) ((State.memWrite_cycles ..).trans (s.noteRead_cycles s.hl))⟩

/-- `BIT b,r` (R316). -/
theorem bitReg_effect (b : Fin 8) (x : Reg8) (s : State) :
    let t := bitReg b x s
    FlagsAre t (decide (bitNat b (s.reg x).toNat = 0)) false true s.flagC ∧ t.cycles = s.cycles + 8 ∧
      RegisterOnly [] s t := by
  rw [← bit8_eq]
  exact setFlags_tick_effect (bit8 b (s.reg x)) false true s.flagC 8 s

/-- `BIT b,(HL)` (R317). -/
theorem bitHL_effect (b : Fin 8) (s : State) :
    let t := bitHL b s
    FlagsAre t (decide (bitNat b (s.peek s.hl).toNat = 0)) false true s.flagC ∧ t.cycles = s.cycles + 12 ∧
      ReadsOnly s.hl [] s t := by
  rw [← bit8_eq]
  obtain ⟨hflags, hcycles, hframe⟩ :=
    setFlags_tick_effect (bit8 b (s.peek s.hl)) false true s.flagC 12 (s.noteRead s.hl)
  exact ⟨hflags, hcycles.trans (congrArg (· + 12) (s.noteRead_cycles s.hl)),
    (readsOnly_noteRead s s.hl).trans_registerOnly hframe⟩

/-- A byte stored at the address just read, no flag changed (R319, R321). -/
theorem noteRead_store_effect (addr : Word) (v : Byte) (k : Nat) (s : State) :
    let t := ((s.noteRead addr).memWrite addr v).tick k
    ReadsThenStores addr v [] s t ∧ t.f = s.f ∧ t.cycles = s.cycles + k := by
  obtain ⟨hf, hcycles, hframe⟩ := store_effect addr v k (s.noteRead addr)
  exact ⟨hframe.after_noteRead, hf.trans (s.noteRead_f addr), hcycles.trans (congrArg (· + k) (s.noteRead_cycles addr))⟩

/-! ## The encodings, by shift code, bit number and register code (30_encoding.md R134, R139) -/

theorem encode_mkShift (k : ShiftOp) (x : Reg8) : encode (mkShift k x) = [0xCB, byteOf (8 * shiftCode k + regCode x)] := by
  cases k <;> cases x <;> rfl

theorem encode_mkShiftHL (k : ShiftOp) : encode (mkShiftHL k) = [0xCB, byteOf (8 * shiftCode k + 6)] := by cases k <;> rfl

theorem encode_mkBit (b : Fin 8) (x : Reg8) : encode (mkBit b x) = [0xCB, byteOf (0x40 + 8 * b.val + regCode x)] := by
  fin_cases b <;> cases x <;> rfl

theorem encode_mkBitHL (b : Fin 8) : encode (mkBitHL b) = [0xCB, byteOf (0x46 + 8 * b.val)] := by fin_cases b <;> rfl

theorem encode_mkRes (b : Fin 8) (x : Reg8) : encode (mkRes b x) = [0xCB, byteOf (0x80 + 8 * b.val + regCode x)] := by
  fin_cases b <;> cases x <;> rfl

theorem encode_mkResHL (b : Fin 8) : encode (mkResHL b) = [0xCB, byteOf (0x86 + 8 * b.val)] := by fin_cases b <;> rfl

theorem encode_mkSet (b : Fin 8) (x : Reg8) : encode (mkSet b x) = [0xCB, byteOf (0xC0 + 8 * b.val + regCode x)] := by
  fin_cases b <;> cases x <;> rfl

theorem encode_mkSetHL (b : Fin 8) : encode (mkSetHL b) = [0xCB, byteOf (0xC6 + 8 * b.val)] := by fin_cases b <;> rfl

/-! ## The statements -/

/-- Settles O49: all four are `shiftA` (`shiftA_effect`), each with its kind of rotate. -/
theorem rotateA : Obligations.RotateA := by
  unfold Obligations.RotateA
  intro s rotates
  have hrotates : ∀ {i : Instr} {k : ShiftOp}, exec i s = .next (shiftA k s) → rotates i k :=
    fun hexec => ⟨_, hexec, shiftA_effect _ s⟩
  exact ⟨⟨rfl, hrotates rfl⟩, ⟨rfl, hrotates rfl⟩, ⟨rfl, hrotates rfl⟩, rfl, hrotates rfl⟩

/-- Settles O50, by `shiftReg_effect`. -/
theorem shiftRegister : Obligations.ShiftRegister := by
  unfold Obligations.ShiftRegister
  exact fun k x s => ⟨encode_mkShift k x, _, exec_mkShift k x s, shiftReg_effect k x s⟩

/-- Settles O51: one read and one store at `HL`, whatever lies there (`shiftHL_effect`). -/
theorem shiftAtHL : Obligations.ShiftAtHL := by
  unfold Obligations.ShiftAtHL
  exact fun k s => ⟨encode_mkShiftHL k, _, exec_mkShiftHL k s, shiftHL_effect k s⟩

/-- Settles O52: flags alone, of a register (`bitReg_effect`) or after a read at `HL` (`bitHL_effect`). -/
theorem testBit : Obligations.TestBit := by
  unfold Obligations.TestBit
  exact fun b s => ⟨fun x => ⟨encode_mkBit b x, _, exec_mkBit b x s, bitReg_effect b x s⟩,
    encode_mkBitHL b, _, exec_mkBitHL b s, bitHL_effect b s⟩

/-- Settles O53: a byte put into the register (`setReg_tick_effect`), which `res8_getLsbD` and `set8_getLsbD` give bit by bit. -/
theorem resSetRegister : Obligations.ResSetRegister := by
  unfold Obligations.ResSetRegister
  intro b x s
  refine ⟨⟨encode_mkRes b x, _, exec_mkRes b x s, ?_⟩, encode_mkSet b x, _, exec_mkSet b x s, ?_⟩
  · obtain ⟨hreg, hframe⟩ := setReg_tick_effect x (res8 b (s.reg x)) 8 s
    exact ⟨fun i hi => (congrArg (BitVec.getLsbD · i) hreg).trans (res8_getLsbD b _ i hi), hframe⟩
  · obtain ⟨hreg, hframe⟩ := setReg_tick_effect x (set8 b (s.reg x)) 8 s
    exact ⟨fun i hi => (congrArg (BitVec.getLsbD · i) hreg).trans (set8_getLsbD b _ i hi), hframe⟩

/-- Settles O54: the byte is stored at the address just read (`noteRead_store_effect`), also when its bit already was so. -/
theorem resSetAtHL : Obligations.ResSetAtHL := by
  unfold Obligations.ResSetAtHL
  intro b s
  refine ⟨⟨encode_mkResHL b, _, res8 b (s.peek s.hl), exec_mkResHL b s, ?_⟩,
    encode_mkSetHL b, _, set8 b (s.peek s.hl), exec_mkSetHL b s, ?_⟩
  · obtain ⟨hstored, hframe⟩ := noteRead_store_effect s.hl (res8 b (s.peek s.hl)) 16 s
    exact ⟨hstored, res8_getLsbD b _, hframe⟩
  · obtain ⟨hstored, hframe⟩ := noteRead_store_effect s.hl (set8 b (s.peek s.hl)) 16 s
    exact ⟨hstored, set8_getLsbD b _, hframe⟩

end Sys2Proof.Machine
end

section
/-! PROOFS. Jumps, calls, returns and restarts (46_control_flow.md R330 to R340): a jump writes `PC` and `cycles` alone, a call is a jump after a push,
a return a jump to the word popped; a conditional instruction is that, or a tick. -/

namespace Sys2Proof.Machine

/-! ## The condition and the displacement -/

/-- When a condition holds (10_state.md R25, 30_encoding.md R138). -/
theorem cond_iff (s : State) (cc : Cond) :
    s.cond cc = true ↔
      (cc = .nz ∧ s.flagZ = false ∨ cc = .z ∧ s.flagZ = true ∨ cc = .nc ∧ s.flagC = false ∨ cc = .c ∧ s.flagC = true) := by
  cases cc <;> simp [State.cond]

/-- A conditional instruction does its taken effect, or only ticks. -/
theorem exec_of_cond {i : Instr} {cc : Cond} {s t : State} {k : Nat}
    (hexec : exec i s = .next (if s.cond cc then t else s.tick k)) :
    (s.cond cc = true → exec i s = .next t) ∧ (¬ s.cond cc = true → exec i s = .next { s with cycles := s.cycles + k }) :=
  ⟨fun h => hexec.trans (congrArg _ (if_pos h)), fun h => hexec.trans (congrArg _ (if_neg h))⟩

/-- The target of a relative jump, by number (R333). -/
theorem add_sext16_eq (pc : Word) (e : Byte) : pc + sext16 e = BitVec.ofNat 16 (pc.toNat + sextNat e) := by
  apply BitVec.eq_of_toNat_eq
  rw [BitVec.toNat_add, sext16_toNat, BitVec.toNat_ofNat]

/-! ## What a jump, a call and a return do -/

theorem sameBut_jumpTo (target : Word) (k : Nat) (s : State) : SameBut [] s (jumpTo target k s) :=
  (((Keeps.refl s).pc target).tick k).sameBut fun r _ => by cases r <;> rfl

theorem sameBacking_jumpTo (target : Word) (k : Nat) (s : State) : SameBacking s (jumpTo target k s) :=
  ⟨fun j => by cases j <;> rfl, rfl, rfl, rfl, rfl, rfl, rfl⟩

theorem jumpTo_add_sext16 (e : Byte) (k : Nat) (s : State) :
    jumpTo (s.pc + sext16 e) k s =
      { s with pc := BitVec.ofNat 16 (s.pc.toNat + sextNat e), cycles := s.cycles + k } := by
  rw [add_sext16_eq]
  rfl

/-- `Push16(PC)`, then a jump (R335, R336, R340). -/
theorem callTo_effect (target : Word) (k : Nat) (s : State) :
    let t := callTo target k s
    t.pc.toNat = target.toNat ∧ PushedWord s.pc s t ∧ t.f = s.f ∧ SameBut [] s t ∧ t.cycles = s.cycles + k := by
  obtain ⟨-, hf, -⟩ := push16_frame s s.pc
  have hbut := sameBut_push16 s s.pc
  obtain ⟨hbanks, hram⟩ := hbut.sizes
  have hback : SameBacking (s.push16 s.pc) (callTo target k s) := sameBacking_jumpTo ..
  exact ⟨rfl, (pushedWord_push16 s s.pc).congr hback rfl hbanks hram, hf, hbut.trans (sameBut_jumpTo ..), callTo_cycles ..⟩

/-- A jump to `Pop16()` (R337, R338). -/
theorem returnTo_effect (k : Nat) (s : State) :
    let t := returnTo k s
    PoppedWord t.pc s t ∧ t.f = s.f ∧ SameBut [] s t ∧ t.cycles = s.cycles + k := by
  obtain ⟨-, hf, -⟩ := pop16_frame s
  have hbut := sameBut_pop16 s
  obtain ⟨hbanks, hram⟩ := hbut.sizes
  have hback : SameBacking s.pop16.2 (returnTo k s) := sameBacking_jumpTo ..
  exact ⟨(poppedWord_pop16 s).congr hback rfl hbanks hram, hf, hbut.trans (sameBut_jumpTo ..), returnTo_cycles ..⟩

/-- Arming the one-shot leaves what a pop did. -/
theorem PoppedWord.arm {v : Word} {s t : State} (h : PoppedWord v s t) (hbut : SameBut [] s t) :
    PoppedWord v s { t with imePending := true } := by
  obtain ⟨hbanks, hram⟩ := hbut.sizes
  exact h.congr ⟨fun j => by cases j <;> rfl, rfl, rfl, rfl, rfl, rfl, rfl⟩ rfl hbanks hram

theorem reg_arm (s : State) (r : Reg8) : State.reg { s with imePending := true } r = s.reg r := by cases r <;> rfl

/-- `RETI` is a return that also arms the one-shot (R339, 60_exceptions.md R412). -/
theorem exec_reti (s : State) : exec .reti s = .next { returnTo 16 s with imePending := true } := rfl

/-! ## The encodings, by condition code and vector number (30_encoding.md R138) -/

theorem encode_mkJpCond (cc : Cond) (nn : Word) :
    encode (mkJpCond cc nn) = [byteOf (0xC2 + 8 * condCode cc), loByte nn, hiByte nn] := by cases cc <;> rfl

theorem encode_mkJrCond (cc : Cond) (e : Byte) : encode (mkJrCond cc e) = [byteOf (0x20 + 8 * condCode cc), e] := by
  cases cc <;> rfl

theorem encode_mkCallCond (cc : Cond) (nn : Word) :
    encode (mkCallCond cc nn) = [byteOf (0xC4 + 8 * condCode cc), loByte nn, hiByte nn] := by cases cc <;> rfl

theorem encode_mkRetCond (cc : Cond) : encode (mkRetCond cc) = [byteOf (0xC0 + 8 * condCode cc)] := by cases cc <;> rfl

theorem encode_mkRst (r : Fin 8) : encode (mkRst r) = [byteOf (0xC7 + 8 * r.val)] := by fin_cases r <;> rfl

/-! ## The statements -/

/-- Settles O55: all are `jumpTo`, the conditional ones by `exec_of_cond`; the displacement is added by number (`jumpTo_add_sext16`). -/
theorem jumps : Obligations.Jumps := by
  unfold Obligations.Jumps
  intro s jr
  simp only [← cond_iff]
  refine ⟨fun nn => ⟨rfl, rfl⟩, ⟨rfl, rfl⟩, fun e => ⟨rfl, congrArg _ (jumpTo_add_sext16 e 12 s)⟩,
    fun cc => ⟨fun nn => ⟨encode_mkJpCond cc nn, exec_of_cond (exec_mkJpCond cc nn s)⟩, fun e => ⟨encode_mkJrCond cc e, ?_⟩⟩⟩
  obtain ⟨htaken, hskipped⟩ := exec_of_cond (exec_mkJrCond cc e s)
  exact ⟨fun h => (htaken h).trans (congrArg _ (jumpTo_add_sext16 e 12 s)), hskipped⟩

/-- Settles O56: all are `callTo` (`callTo_effect`), the conditional ones by `exec_of_cond`. -/
theorem calls : Obligations.Calls := by
  unfold Obligations.Calls
  intro s calls
  simp only [← cond_iff]
  have hcalls : ∀ {i : Instr} {target : Word} {k : Nat}, exec i s = .next (callTo target k s) → calls i target.toNat k :=
    fun hexec => ⟨_, hexec, callTo_effect ..⟩
  refine ⟨fun nn => ⟨rfl, hcalls rfl⟩, fun cc nn => ⟨encode_mkCallCond cc nn, ?_⟩, fun r => ⟨encode_mkRst r, ?_⟩⟩
  · obtain ⟨htaken, hskipped⟩ := exec_of_cond (exec_mkCallCond cc nn s)
    exact ⟨fun h => hcalls (htaken h), hskipped⟩
  · have hvector : (BitVec.ofNat 16 (8 * r.val)).toNat = 8 * r.val := Nat.mod_eq_of_lt (by omega)
    exact hvector ▸ hcalls (exec_mkRst r s)

/-- Settles O57: all are `returnTo` (`returnTo_effect`), the conditional ones by `exec_of_cond`; `RETI` arms the one-shot besides. -/
theorem returns : Obligations.Returns := by
  unfold Obligations.Returns
  intro s returns
  simp only [← cond_iff]
  have hreturns : ∀ {i : Instr} {k : Nat}, exec i s = .next (returnTo k s) → returns i s.imePending k := fun hexec => by
    obtain ⟨hpopped, hf, ⟨hreg, ⟨hime, harmed, hrun⟩, hbuild⟩, hcycles⟩ := returnTo_effect _ s
    exact ⟨_, hexec, hpopped, fun r => hreg r List.not_mem_nil, hf, hime, harmed, hrun, hbuild, hcycles⟩
  refine ⟨⟨rfl, hreturns rfl⟩, fun cc => ⟨encode_mkRetCond cc, ?_⟩, rfl, ?_⟩
  · obtain ⟨htaken, hskipped⟩ := exec_of_cond (exec_mkRetCond cc s)
    exact ⟨fun h => hreturns (htaken h), hskipped⟩
  · obtain ⟨hpopped, hf, hbut, hcycles⟩ := returnTo_effect 16 s
    have hpopped' := hpopped.arm hbut
    obtain ⟨hreg, ⟨hime, -, hrun⟩, hbuild⟩ := hbut
    exact ⟨_, exec_reti s, hpopped', fun r => (reg_arm ..).trans (hreg r List.not_mem_nil), hf, hime, rfl, hrun, hbuild,
      hcycles⟩

end Sys2Proof.Machine
end

section
/-! PROOFS. CPU control and the illegal opcodes (47_cpu_control.md R350 to R356): each changes one bit, or lets its cycles pass; `STOP` is the build
parameter. -/

namespace Sys2Proof.Machine

/-! ## `STOP`, by the value of its parameter -/

section
variable {s : State}

theorem exec_stop_refuse (h : s.stopBehaviour = .refuse) : exec .stop s = .refused .stopUnspecified := by
  simp only [exec, execStop, h]

theorem exec_stop_noop (h : s.stopBehaviour = .noop) : exec .stop s = .next (s.tick 4) := by
  simp only [exec, execStop, h, idle]

theorem exec_stop_step {k : Nat} (h : s.stopBehaviour = .step k) :
    exec .stop s = .next (s.adoptStop (Config.stopStep k s)) := by
  simp only [exec, execStop, h]

/-- `STOP` has a next state under every value but the default. -/
theorem exec_stop_next (h : s.stopBehaviour ≠ .refuse) : ∃ t, exec .stop s = .next t := by
  cases hb : s.stopBehaviour with
  | refuse => exact absurd hb h
  | noop => exact ⟨_, exec_stop_noop hb⟩
  | step k => exact ⟨_, exec_stop_step hb⟩

end

/-- Memory after a step function of `STOP` is what its Bus accesses left. -/
theorem adoptStop_array (s : State) (x : StopEffect) (j : ArrayId) :
    (s.adoptStop x).array j = (s.busAccesses x.accesses).array j := by cases j <;> rfl

/-- A step function of `STOP` arms the one-shot only where it leaves the machine running (60_exceptions.md R402). -/
theorem adoptStop_imePending_iff (s : State) (x : StopEffect) :
    (s.adoptStop x).imePending = true ↔ x.imePending = true ∧ x.run = .running := by
  show (x.imePending && decide (x.run = .running)) = true ↔ _
  rw [Bool.and_eq_true, decide_eq_true_iff]

/-! ## The statements -/

/-- Settles O58: `NOP` and each of the eleven is `idle`, on the byte of its encoding. -/
theorem nopAndIllegal : Obligations.NopAndIllegal := by
  unfold Obligations.NopAndIllegal
  intro s w hw
  fin_cases hw <;> exact ⟨rfl, rfl⟩

/-- Settles O59: each of the three is one record update and 4 cycles. -/
theorem haltDiEi : Obligations.HaltDiEi := by
  unfold Obligations.HaltDiEi
  exact fun s => ⟨⟨rfl, rfl⟩, ⟨rfl, rfl⟩, rfl, rfl⟩

/-- Settles O60: the value of the parameter selects the meaning (`exec_stop_refuse`, `exec_stop_noop`, `exec_stop_step`), and what a step function
gives is `State.adoptStop`. -/
theorem stopIsTheBuildParameter : Obligations.StopIsTheBuildParameter := by
  unfold Obligations.StopIsTheBuildParameter
  refine fun s => ⟨rfl, exec_stop_noop, exec_stop_refuse, fun k hk => ?_⟩
  obtain ⟨-, -, hbuild, -, -, hcycles⟩ := adoptStop_spec s (Config.stopStep k s)
  exact ⟨_, exec_stop_step hk, ⟨rfl, rfl, rfl, rfl, rfl, rfl, rfl⟩, and_highNibble_toNat _, rfl, rfl, rfl, rfl,
    adoptStop_imePending_iff .., hcycles, adoptStop_array s _, rfl, rfl, rfl, rfl, hbuild⟩

end Sys2Proof.Machine
end

section
/-! PROOFS. Which steps have a next state, how many cycles they take, and what an interrupt, a halted machine and the one-shot of `EI` make of a step
(60_exceptions.md R400 to R415; 70_reset_and_hazards.md R480). -/

namespace Sys2Proof.Machine

/-! ## The instruction fetched -/

/-- The machine fetches `STOP` exactly where the byte at `PC` is 0x10 (47_cpu_control.md R353). -/
theorem fetchInstr_eq_stop_iff (u : State) : u.fetchInstr.1 = .stop ↔ u.peek u.pc = 0x10 := by
  constructor
  · intro hi
    obtain ⟨-, henc, -⟩ := fetchInstr_spec u
    obtain ⟨-, hlen, hbytes⟩ := fetchBytes_spec u (opcodeLength (u.peek u.pc))
    rw [← henc, hi] at hlen hbytes
    have hfirst := hbytes 0 (by rw [← hlen]; decide)
    rw [BitVec.add_zero] at hfirst
    exact (Option.some.inj hfirst).symm
  · intro hop
    rw [fetchInstr_f0 (by rw [hop]; decide), hop]
    rfl

theorem fetchInstr_cycles (u : State) : u.fetchInstr.2.cycles = u.cycles := by
  obtain ⟨_, _, e⟩ := fetchInstr_state u
  rw [e]

theorem fetchInstr_stopBehaviour (u : State) : u.fetchInstr.2.stopBehaviour = u.stopBehaviour := by
  obtain ⟨_, _, e⟩ := fetchInstr_state u
  rw [e]

/-! ## Totality -/

/-- Every instruction but `STOP` has a next state in every state (60_exceptions.md R420). -/
theorem exec_next {i : Instr} (h : i ≠ .stop) (s : State) : ∃ t, exec i s = .next t := by
  cases family i with
  | ld => exact ⟨_, exec_mkLd ..⟩
  | ldImm => exact ⟨_, exec_mkLdImm ..⟩
  | ldFromHL => exact ⟨_, exec_mkLdFromHL ..⟩
  | ldToHL => exact ⟨_, exec_mkLdToHL ..⟩
  | alu => exact ⟨_, exec_mkAlu ..⟩
  | aluHL => exact ⟨_, exec_mkAluHL ..⟩
  | aluImm => exact ⟨_, exec_mkAluImm ..⟩
  | inc => exact ⟨_, exec_mkInc ..⟩
  | dec => exact ⟨_, exec_mkDec ..⟩
  | ldPair => exact ⟨_, exec_mkLdPair ..⟩
  | addHL => exact ⟨_, exec_mkAddHL ..⟩
  | incPair => exact ⟨_, exec_mkIncPair ..⟩
  | decPair => exact ⟨_, exec_mkDecPair ..⟩
  | push => exact ⟨_, exec_mkPush ..⟩
  | pop => exact ⟨_, exec_mkPop ..⟩
  | jpCond => exact ⟨_, exec_mkJpCond ..⟩
  | jrCond => exact ⟨_, exec_mkJrCond ..⟩
  | callCond => exact ⟨_, exec_mkCallCond ..⟩
  | retCond => exact ⟨_, exec_mkRetCond ..⟩
  | rst => exact ⟨_, exec_mkRst ..⟩
  | shift => exact ⟨_, exec_mkShift ..⟩
  | shiftHL => exact ⟨_, exec_mkShiftHL ..⟩
  | bit => exact ⟨_, exec_mkBit ..⟩
  | bitHL => exact ⟨_, exec_mkBitHL ..⟩
  | res => exact ⟨_, exec_mkRes ..⟩
  | resHL => exact ⟨_, exec_mkResHL ..⟩
  | set => exact ⟨_, exec_mkSet ..⟩
  | setHL => exact ⟨_, exec_mkSetHL ..⟩
  | stop => exact absurd rfl h
  | _ => exact ⟨_, rfl⟩

/-- Settles O6: a step that is over before its execute phase has a next state, and of the instructions only `STOP` can have none. -/
theorem stepIsTotalButForStop : Obligations.StepIsTotalButForStop := by
  unfold Obligations.StepIsTotalButForStop
  refine fun s => ⟨fun ⟨u, hb, hop, hrefuse⟩ => ?_, fun hstops => ?_⟩
  · rw [step_execute hb, (fetchInstr_eq_stop_iff u).mpr hop]
    exact exec_stop_refuse ((fetchInstr_stopBehaviour u).trans hrefuse)
  · cases hb : s.boundary with
    | finished t => exact ⟨t, step_finished hb⟩
    | execute u =>
      rw [step_execute hb]
      by_cases hi : u.fetchInstr.1 = .stop
      · have hne : u.fetchInstr.2.stopBehaviour ≠ .refuse := fun hrefuse =>
          hstops ⟨u, hb, (fetchInstr_eq_stop_iff u).mp hi, (fetchInstr_stopBehaviour u).symm.trans hrefuse⟩
        rw [hi]
        exact exec_stop_next hne
      · exact exec_next hi _

/-- Settles O10, by the three ways a step ends; an instruction adds what `ExecEffect` says, counted from before the fetch. -/
theorem stepCyclesInValueSet : Obligations.StepCyclesInValueSet := by
  unfold Obligations.StepCyclesInValueSet
  intro s t h
  cases step_effect h with
  | dispatched _ _ ht => exact .inl ⟨20, by decide, by rw [ht, takeInterrupt_eq]⟩
  | idled _ _ ht => exact .inl ⟨4, by decide, by rw [ht, State.tick_cycles]⟩
  | executed hb he =>
    have hfetch : s.awake.fetchInstr.2.cycles = s.cycles := fetchInstr_cycles _
    have hcycles := he.cycles
    rw [hfetch, fetchInstr_stopBehaviour] at hcycles
    obtain hvalue | ⟨hi, k, hk, hvalue⟩ := hcycles
    · exact .inl hvalue
    · exact .inr ⟨_, k, hb, hi, hk, hvalue⟩

/-! ## Taking an interrupt -/

/-- The state after the interrupt of source `i` is taken, over the push of `PC` (60_exceptions.md R405). -/
def State.dispatched (s : State) (i : Nat) : State :=
  { s.push16 s.pc with
      ime := false, imePending := false, run := .running, pc := vector i
      ifReg := (s.push16 s.pc).ifReg &&& ~~~(1#5 <<< i), cycles := s.cycles + 20 }

/-- With `IME` set and a request pending, the step dispatches the highest priority, halted or not (60_exceptions.md R401, R404). -/
theorem step_dispatched {s : State} (hime : s.ime = true) (hpend : s.pending ≠ 0) :
    step s = .next (s.dispatched (lowestSet s.pending)) := by
  rw [step_finished (boundary_dispatch hime hpend), takeInterrupt_eq]
  rfl

theorem vector_toNat (i : Fin 5) : (vector i.val).toNat = 0x0040 + 8 * i.val := by
  rw [vector, BitVec.toNat_ofNat, Nat.mod_eq_of_lt (by omega)]

/-- Clearing bit `i` of `IF`, bit by bit. -/
theorem clearBit_getLsbD (p : BitVec 5) (i : Fin 5) (j : Nat) :
    (p &&& ~~~(1#5 <<< i.val)).getLsbD j = (p.getLsbD j && decide (j ≠ i.val)) := by
  by_cases hj : j < 5
  · have hbit : (1#5 <<< i.val).getLsbD j = decide (j = i.val) := by
      rw [← BitVec.twoPow_eq, BitVec.getLsbD_twoPow]
      simp only [i.isLt, decide_true, Bool.true_and, eq_comm]
    rw [BitVec.getLsbD_and, BitVec.getLsbD_not, hbit, decide_eq_true hj, Bool.true_and, decide_not]
  · rw [BitVec.getLsbD_of_ge _ _ (by omega), BitVec.getLsbD_of_ge _ _ (by omega), Bool.false_and]

/-- Settles O13: `State.dispatched` at the lowest set bit, over what the push of `PC` does (`pushedWord_push16`, `push16_frame`). -/
theorem interruptDispatch : Obligations.InterruptDispatch := by
  unfold Obligations.InterruptDispatch
  intro s i hime hbit hlower
  have hpend : s.pending ≠ 0 := fun h => by simp [h] at hbit
  obtain ⟨hreg, hf, -, -, hbuild, hcycles⟩ := push16_frame s s.pc
  have hstep := step_dispatched hime hpend
  rw [lowestSet_eq i hbit hlower] at hstep
  exact ⟨s.push16 s.pc, _, pushedWord_push16 s s.pc, hreg, hf, hbuild, hcycles, hstep, rfl, vector_toNat i, clearBit_getLsbD _ i⟩

/-! ## A push away from `IF` -/

theorem toNat_of_region_ifPort {addr : Word} : region addr = .ifPort → addr.toNat = 0xFF0F := by
  fun_cases region addr with
  | case10 => exact fun _ => ‹_›
  | _ => exact fun h => nomatch h

/-- Only its own address leads to `IF` (20_memory.md R74). -/
theorem locate_ne_ifPort {addr : Word} (h : addr ≠ 0xFF0F) (s : State) : s.locate addr ≠ .ifPort := by
  have hwram : ∀ n, wramLoc n ≠ .ifPort := fun n hn => by
    obtain ⟨k, i, e⟩ := wramLoc_cell n
    exact nomatch e.symm.trans hn
  intro hl
  cases hr : region addr <;> simp only [State.locate, hr, reduceCtorEq] at hl
  case cartRam =>
    rcases mbcRamLoc_cases s.mbc s.ramBytes addr with e | ⟨_, e, _⟩ | ⟨_, e, _⟩ | ⟨_, e, _⟩ <;> exact nomatch e.symm.trans hl
  case wram0 | wram1 | echo => exact hwram _ hl
  case ifPort => exact h (BitVec.eq_of_toNat_eq (toNat_of_region_ifPort hr))

theorem memWrite_ifReg {addr : Word} (h : addr ≠ 0xFF0F) (s : State) (v : Byte) : (s.memWrite addr v).ifReg = s.ifReg := by
  obtain ⟨-, -, -, -, -, hif, -, -⟩ := storedByte_memWrite s addr v
  rw [hif, if_neg (locate_ne_ifPort h s)]

theorem push16_ifReg {s : State} (hhi : s.sp - 1 ≠ 0xFF0F) (hlo : s.sp - 2 ≠ 0xFF0F) (v : Word) :
    (s.push16 v).ifReg = s.ifReg := by
  rw [push16_eq]
  exact (memWrite_ifReg hlo _ _).trans (memWrite_ifReg hhi _ _)

/-- Settles O14: the lowest set bit of `0x05` is VBlank's, and after the dispatch `IME` is clear, so the next step executes. -/
theorem vBlankBeforeTimer : Obligations.VBlankBeforeTimer := by
  unfold Obligations.VBlankBeforeTimer
  intro s hif hie hime hhi hlo
  have hpend : s.pending = 0b00101 := by rw [State.pending, hif, hie]; rfl
  have hstep := step_dispatched hime (by rw [hpend]; decide)
  rw [hpend] at hstep
  have hleft : (s.dispatched (lowestSet 0b00101)).ifReg = 0b00100 := by
    rw [State.dispatched, push16_ifReg hhi hlo, hif]
    rfl
  exact ⟨_, hstep, rfl, hleft, rfl, rfl, _, boundary_running rfl rfl⟩

/-! ## The halted machine -/

/-- Settles O15: the halted case of `boundary_cases` is the only one left. -/
theorem haltedTick : Obligations.HaltedTick := by
  unfold Obligations.HaltedTick
  intro s hrun hpend
  obtain ⟨_, hne, _⟩ | ⟨_, _, hb⟩ | ⟨_, hne, _⟩ := boundary_cases s
  · exact absurd hpend hne
  · exact step_finished hb
  · exact absurd hpend (hne hrun)

/-- Settles O16: without `IME` the execute phase starts from `s.awake`, which does not look at the run state; with it the step dispatches. -/
theorem pendingRequestWakes : Obligations.PendingRequestWakes := by
  unfold Obligations.PendingRequestWakes
  refine fun s hrun hpend => ⟨fun hime => ?_, fun hime => ?_⟩
  · have hhalted : s.boundary = .execute s.awake := boundary_awake (fun h => nomatch hime.symm.trans h.1) fun _ => hpend
    have hrunning : State.boundary { s with run := .running } = .execute s.awake := boundary_running hime rfl
    exact ⟨(step_execute hhalted).trans (step_execute hrunning).symm, _, hhalted, rfl, rfl, rfl⟩
  · exact ⟨_, step_dispatched hime hpend, rfl, rfl, rfl, vector_lowestSet _⟩

/-! ## `EI`, `DI` and the one-shot -/

section
variable {s : State}

theorem awake_of_running (hrun : s.run = .running) :
    s.awake = { s with ime := s.ime || s.imePending, imePending := false } := by
  rw [State.awake, ← hrun]

/-- With no armed one-shot, a running machine is its own `awake`. -/
theorem awake_eq_self (hrun : s.run = .running) (hp : s.imePending = false) : s.awake = s := by
  rw [awake_of_running hrun, hp, Bool.or_false, ← hp]

/-- Where `IME` is clear, a running machine executes, whatever is pending. -/
theorem step_running (hime : s.ime = false) (hrun : s.run = .running) :
    step s = exec s.awake.fetchInstr.1 s.awake.fetchInstr.2 := step_execute (boundary_running hime hrun)

/-- The same where the byte at `PC` is a whole instruction. -/
theorem step_running_f0 (hime : s.ime = false) (hrun : s.run = .running) {op : Byte} (hop : s.peek s.pc = op)
    (hf : opcodeFormat op = .f0) :
    step s = exec (decodePrimary op 0 0) { s.awake with pc := s.pc + 1, ports := portsAfterRead s s.pc } := by
  have hop' : s.awake.peek s.awake.pc = op := hop
  rw [step_running hime hrun, fetchInstr_f0 (by rw [hop', hf]), hop', fetch8_state]
  rfl

/-- The step at an `EI` from a running machine with `IME` and the one-shot clear (47_cpu_control.md R354). -/
theorem step_ei (hime : s.ime = false) (hrun : s.run = .running) (hp : s.imePending = false) (hop : s.peek s.pc = 0xFB) :
    step s = .next { s with imePending := true, pc := s.pc + 1, cycles := s.cycles + 4, ports := portsAfterRead s s.pc } := by
  rw [step_running_f0 hime hrun hop (by decide), awake_eq_self hrun hp]
  rfl

/-- The step at a `DI` from a running machine with `IME` clear: the one-shot is consumed, and `IME` cleared after it (R352). -/
theorem step_di (hime : s.ime = false) (hrun : s.run = .running) (hop : s.peek s.pc = 0xF3) :
    step s = .next
      { s with ime := false, imePending := false, pc := s.pc + 1, cycles := s.cycles + 4, ports := portsAfterRead s s.pc } := by
  rw [step_running_f0 hime hrun hop (by decide), awake_of_running hrun]
  rfl

/-- The step after the one-shot was armed: one instruction, with `IME` set and the one-shot consumed (60_exceptions.md R402). -/
theorem step_armed (hime : s.ime = false) (hrun : s.run = .running) (hp : s.imePending = true) :
    step s = exec { s with ime := true, imePending := false }.fetchInstr.1
      { s with ime := true, imePending := false }.fetchInstr.2 := by
  rw [step_running hime hrun, awake_of_running hrun, hp, Bool.or_true]

end

/-- Settles O17: the `EI` (`step_ei`), then the step that consumes what it armed (`step_armed`). -/
theorem eiDelaysOneInstruction : Obligations.EiDelaysOneInstruction := by
  unfold Obligations.EiDelaysOneInstruction
  intro s hrun hime hp hop
  exact ⟨_, step_ei hime hrun hp hop, hime, rfl, rfl, rfl, step_armed hime hrun rfl⟩

/-- Settles O18: the `EI` (`step_ei`) leaves `IME` clear, and so does the `DI` (`step_di`), so the step after them executes. -/
theorem eiDiAtomic : Obligations.EiDiAtomic := by
  unfold Obligations.EiDiAtomic
  intro s t hrun hime hp hop hstep hopt
  rw [step_ei hime hrun hp hop] at hstep
  cases hstep
  have hpc : s.pc + 1 + 1 = s.pc + 2 := BitVec.add_assoc ..
  exact ⟨_, step_di hime hrun hopt, rfl, rfl, hpc, rfl, rfl, rfl, _, boundary_running rfl hrun⟩

end Sys2Proof.Machine
end

section
/-! PROOFS. The state after reset, of the blank cartridge and of every loaded one (70_reset_and_hazards.md R450 to R452). -/

namespace Sys2Proof.Machine

/-- A loaded machine is in the reset state of its cartridge, whose image is in canonical form. -/
theorem load_eq_ok {image : List Byte} {s : State} (h : load image = .ok s) :
    ∃ m rom banks n, romWf rom = true ∧ s = State.resetWith m rom banks n := by
  obtain ⟨_, m, banks, n, _, _, _, _, hs⟩ := load_eq_ok_iff.mp h
  exact ⟨m, _, banks, n, (romOfImage_spec image 0).1, hs⟩

/-- No RAM byte is listed after reset, so memory is in canonical form where the image is. -/
theorem memOk_resetWith (m : Mbc) {rom : Mem} (h : romWf rom = true) (banks n : Nat) :
    (State.resetWith m rom banks n).memOk = true :=
  (memOk_iff _).mpr ⟨⟨rfl, rfl⟩, ⟨rfl, rfl⟩, ⟨rfl, rfl⟩, ⟨rfl, rfl⟩, ⟨rfl, rfl⟩, ⟨rfl, rfl⟩, ⟨rfl, rfl⟩, h, fun _ => rfl⟩

theorem inv_resetWith (m : Mbc) {rom : Mem} (h : romWf rom = true) (banks n : Nat) : (State.resetWith m rom banks n).Inv :=
  ⟨setF_low (State.resetWith m rom banks n) Config.resetRegs.f, memOk_resetWith m h banks n, fun _ => rfl⟩

/-- Settles O21: both are reset states over an image in canonical form. -/
theorem resetMeetsInvariant : Obligations.ResetMeetsInvariant := by
  unfold Obligations.ResetMeetsInvariant
  refine ⟨inv_resetWith .none rfl 2 0, fun image s h => ?_⟩
  obtain ⟨m, rom, banks, n, hrom, rfl⟩ := load_eq_ok h
  exact inv_resetWith m hrom banks n

/-- Settles O20: every such state is `State.resetWith` of some cartridge, whose fields the statement reads off. -/
theorem resetState : Obligations.ResetState := by
  unfold Obligations.ResetState
  intro s hs
  obtain ⟨m, rom, banks, n, rfl⟩ : ∃ m rom banks n, s = State.resetWith m rom banks n := by
    obtain rfl | ⟨image, h⟩ := hs
    · exact ⟨_, _, _, _, rfl⟩
    · obtain ⟨m, rom, banks, n, -, hs⟩ := load_eq_ok h
      exact ⟨m, rom, banks, n, hs⟩
  have hram : ∀ k, k ≠ .rom → (State.resetWith m rom banks n).array k = [] := fun k hk => by
    cases k with
    | rom => exact absurd rfl hk
    | _ => rfl
  have hpeek : (State.resetWith m rom banks n).peek 0xFF0F = 0xE0 := by
    rw [peek_of_locate (locate_ifPort _ rfl)]
    show 0xE0#8 ||| (0#5).setWidth 8 = 0xE0#8
    decide
  exact ⟨rfl, rfl, rfl, rfl, rfl, rfl, rfl, hram, hpeek,
    ⟨rfl, rfl, rfl, rfl, rfl, rfl, rfl, rfl⟩, and_highNibble_toNat _, rfl, rfl⟩

end Sys2Proof.Machine
end
